-- ==== Sys2Proof/Word.lean ====
section
/-! DEFINITION. The byte and the ten-byte frame (00_scope.md R6, 20_memory.md R26). -/

namespace Sys2Proof

/-- An unsigned 8-bit value (R6: "A *byte* is an unsigned 8-bit value"). -/
abbrev Byte := BitVec 8

/-- One FRAME10 unit of wire data: a vector of exactly ten bytes; index 10 and above do not exist (R26). -/
abbrev Frame := Vector Byte 10

end Sys2Proof
end

