-- ==== Sys2Proof/Machine/Frames.lean ====
section
/-! DEFINITION. Access to a frame: by index (00_scope.md R6, 20_memory.md R26), as the 80 bits of a port (20_memory.md R29),
and as memory cells. A frame buffer is the block's only memory-like object (20_memory.md R25). -/

namespace Sys2Proof

/-- `FrameRead(i)`: byte i of a frame, 0 ≤ i ≤ 9 (R6, R26). -/
def Frame.read (f : Frame) (i : Fin 10) : Byte := f[i]

/-- `FrameWrite(i, v)`: the frame with byte v at position i (R6, R26). -/
def Frame.write (f : Frame) (i : Fin 10) (v : Byte) : Frame := f.set i v

/-- Ten zero bytes: the reset value of `tel_frame` (10_state.md R23), and the blank the telemetry encoder writes over. -/
def Frame.zero : Frame := #v[0, 0, 0, 0, 0, 0, 0, 0, 0, 0]

/-- The frame on an 80-bit port: byte i is bits [8i+7:8i] (R29). -/
def Frame.ofBits (w : BitVec 80) : Frame :=
  #v[w.extractLsb' 0 8, w.extractLsb' 8 8, w.extractLsb' 16 8, w.extractLsb' 24 8, w.extractLsb' 32 8,
     w.extractLsb' 40 8, w.extractLsb' 48 8, w.extractLsb' 56 8, w.extractLsb' 64 8, w.extractLsb' 72 8]

/-- The 80 bits of a frame on its port: byte 0 lowest (R29). -/
def Frame.toBits (f : Frame) : BitVec 80 :=
  f.read 9 ++ f.read 8 ++ f.read 7 ++ f.read 6 ++ f.read 5 ++ f.read 4 ++ f.read 3 ++ f.read 2 ++ f.read 1 ++ f.read 0

/-- A frame buffer as memory: its ten bytes at the addresses 0..9 (R25), in rising order, every address listed. -/
def Frame.cells (f : Frame) : List Host.Cell :=
  [(0, f.read 0), (1, f.read 1), (2, f.read 2), (3, f.read 3), (4, f.read 4),
   (5, f.read 5), (6, f.read 6), (7, f.read 7), (8, f.read 8), (9, f.read 9)]

/-- The canonical form of a frame buffer's memory: exactly the addresses 0..9, rising. No address is unlisted (R25, R26), so
no value is needed for one. -/
def Memory.wf (m : List Host.Cell) : Bool := decide (m.map Prod.fst = List.range 10)

end Sys2Proof
end

