-- ==== Sys2Proof/Machine/Protocol.lean ====
section
/-! DEFINITION. The fixed constants of the wire format (00_scope.md section 4, 30_encoding.md R48, 10_state.md R21). -/

namespace Sys2Proof

/-- START, frame byte 0 (40_frame_validator.md R54). -/
def startByte : Byte := 0xAA#8

/-- END, frame byte 9 (40_frame_validator.md R55). -/
def endByte : Byte := 0x55#8

/-- JOYSTICK (R48). -/
def codeJoystick : Byte := 0x01#8

/-- BUTTON (R48). -/
def codeButton : Byte := 0x02#8

/-- HEARTBEAT (R48). -/
def codeHeartbeat : Byte := 0x03#8

/-- ESTOP (R48). -/
def codeEstop : Byte := 0x04#8

/-- ANNOUNCE_CAPABILITIES (R48). -/
def codeAnnounceCapabilities : Byte := 0x05#8

/-- SERVO_Z (R48). -/
def codeServoZ : Byte := 0x06#8

/-- TELEMETRY (R48). -/
def codeTelemetry : Byte := 0x10#8

/-- The fixed enumeration of command codes (R48). -/
def assignedCodes : List Byte :=
  [codeJoystick, codeButton, codeHeartbeat, codeEstop, codeAnnounceCapabilities, codeServoZ, codeTelemetry]

/-- A code of the OTHER arm: 0x00, 0x07-0x0F, 0x11-0xFF (41_command_dispatcher.md R74). -/
def isOtherCode (c : Byte) : Bool := !(assignedCodes.contains c)

/-- `REMAP_CLAMP` (42_axis_remapper.md R77). -/
def remapClamp : Byte := 200#8

/-- Minus `REMAP_LO`, which the remap subtracts (42_axis_remapper.md R77). -/
def remapOffset : Byte := 100#8

/-- `VOLT_MAX`, in volts (43_telemetry_encoder.md R83). -/
def voltMax : Nat := 25

/-- `VOLT_SCALE` (43_telemetry_encoder.md R86). -/
def voltScale : Nat := 10

/-- The aux-bit flag names of 10_state.md R21, for a consumer of `dec_aux_bits`; the block tests none of them. -/
inductive AuxFlag where
  | w
  | a
  | b
  | l
  | r
deriving DecidableEq, Repr

/-- The value of an aux flag (R21). A and B share 0x02, "a known ambiguity, preserved as-is". -/
def auxMask : AuxFlag → Byte
  | .w => 0x01#8
  | .a => 0x02#8
  | .b => 0x02#8
  | .l => 0x04#8
  | .r => 0x08#8

end Sys2Proof
end

