-- ==== Sys2Proof/Machine/Flags.lean ====
section
/-! DEFINITION. The four flags of 10_state.md R19, none of them stored, and the checksum they use:
sentinel_detector and checksum_validator (40_frame_validator.md R54 to R58, R60). -/

namespace Sys2Proof

/-- The XOR-reduction of frame bytes 1 through 7 (R57): the XOR tree, in the rule's own order. -/
def xorTree (b1 b2 b3 b4 b5 b6 b7 : Byte) : Byte := b1 ^^^ b2 ^^^ b3 ^^^ b4 ^^^ b5 ^^^ b6 ^^^ b7

/-- `computeChecksum(frame)` = XOR(1..7) (R57, R59). -/
def checksum (f : Frame) : Byte :=
  xorTree (f.read 1) (f.read 2) (f.read 3) (f.read 4) (f.read 5) (f.read 6) (f.read 7)

/-- `start_ok`: byte 0 equals START (R54). -/
def startOk (f : Frame) : Bool := f.read 0 == startByte

/-- `end_ok`: byte 9 equals END (R55). -/
def endOk (f : Frame) : Bool := f.read 9 == endByte

/-- `sentinel_ok = start_ok & end_ok` (R56). -/
def sentinelOk (f : Frame) : Bool := startOk f && endOk f

/-- `chk_ok`: byte 8 equals XOR(1..7) (R58). -/
def chkOk (f : Frame) : Bool := f.read 8 == checksum f

/-- `validate(frame)`: `start_ok & end_ok & chk_ok` (R60). -/
def frameValid (f : Frame) : Bool := sentinelOk f && chkOk f

/-- `MKFRAME dev cmd p0 p1 p2 p3 p4`: the frame with those bytes, its sentinels and its checksum (30_encoding.md R53). -/
def mkFrame (dev cmd p0 p1 p2 p3 p4 : Byte) : Frame :=
  #v[startByte, dev, cmd, p0, p1, p2, p3, p4, xorTree dev cmd p0 p1 p2 p3 p4, endByte]

end Sys2Proof
end

