-- ==== Sys2Proof/Syntax.lean ====
section
/-! DEFINITION. The instructions: one constructor per row of spec/opcode_table.json. -/

namespace Sys2Proof

/-- The nine frame commands carry the bytes of their frame that the row leaves open (FRAME10, 30_encoding.md R41): every
payload byte is kept, the ignored ones too, because it enters the checksum (R42). The five block operations carry the
values that their transaction drives on the ports (30_encoding.md R51, R52). -/
inductive Instr where
  /-- JOYSTICK, command code 0x01 (41_command_dispatcher.md R67). -/
  | joystick (dev p0 p1 p2 p3 p4 : Byte)
  /-- BUTTON, command code 0x02 (R68). -/
  | button (dev p0 p1 p2 p3 p4 : Byte)
  /-- HEARTBEAT, command code 0x03 (R69). -/
  | heartbeat (dev p0 p1 p2 p3 p4 : Byte)
  /-- ESTOP, command code 0x04 (R70). -/
  | estop (dev p0 p1 p2 p3 p4 : Byte)
  /-- ANNOUNCE_CAPABILITIES, command code 0x05 (R71). -/
  | announceCapabilities (dev p0 p1 p2 p3 p4 : Byte)
  /-- SERVO_Z, command code 0x06 (R72). -/
  | servoZ (dev p0 p1 p2 p3 p4 : Byte)
  /-- TELEMETRY on the decode path, command code 0x10 (R73). -/
  | telemetry (dev p0 p1 p2 p3 p4 : Byte)
  /-- OTHER: any other command code (R74). -/
  | other (dev cmd p0 p1 p2 p3 p4 : Byte)
  /-- INVALID: a frame that fails a sentinel or the checksum (R64). -/
  | invalid (frame : Frame)
  /-- VALIDATE of a frame driven on `dec_frame` (40_frame_validator.md R60). -/
  | validate (frame : Frame)
  /-- CHECKSUM of a frame driven on `dec_frame` (40_frame_validator.md R59). -/
  | checksum (frame : Frame)
  /-- DECODE of a frame driven on `dec_frame` (41_command_dispatcher.md R63). -/
  | decode (frame : Frame)
  /-- REMAP of a byte driven on `axis_remapper.raw` (42_axis_remapper.md R77). -/
  | remap (raw : Byte)
  /-- ENCODE_TELEMETRY of the four values driven on the `tel_*` ports (43_telemetry_encoder.md R81). -/
  | encodeTelemetry (dev : Byte) (voltage : BitVec 32) (flags : Byte) (cnt : BitVec 32)
deriving DecidableEq, Repr

end Sys2Proof
end

