-- ==== Sys2Proof/WellFormed.lean ====
section
/-! DEFINITION. Which terms of Instr stand for a row of the opcode table: the conditions of the rows OTHER and INVALID. -/

namespace Sys2Proof

/-- OTHER holds a code outside the enumeration (41_command_dispatcher.md R74); INVALID a frame that VALIDATE rejects
(41_command_dispatcher.md R64). Every value is legal for every other operand (30_encoding.md R49). -/
def Instr.wellFormed : Instr → Bool
  | .joystick _ _ _ _ _ _ => true
  | .button _ _ _ _ _ _ => true
  | .heartbeat _ _ _ _ _ _ => true
  | .estop _ _ _ _ _ _ => true
  | .announceCapabilities _ _ _ _ _ _ => true
  | .servoZ _ _ _ _ _ _ => true
  | .telemetry _ _ _ _ _ _ => true
  | .other _ cmd _ _ _ _ _ => isOtherCode cmd
  | .invalid frame => !frameValid frame
  | .validate _ => true
  | .checksum _ => true
  | .decode _ => true
  | .remap _ => true
  | .encodeTelemetry _ _ _ _ => true

end Sys2Proof
end

