-- ==== Sys2Proof/Decode.lean ====
section
/-! DEFINITION. The decoder, total on every frame (30_encoding.md R48, R49), and the encoder, both from FRAME10 (R41). -/

namespace Sys2Proof

/-- The arm of a valid frame, by its command byte (30_encoding.md R48). -/
def decodeCommand (dev cmd p0 p1 p2 p3 p4 : Byte) : Instr :=
  if cmd = codeJoystick then .joystick dev p0 p1 p2 p3 p4
  else if cmd = codeButton then .button dev p0 p1 p2 p3 p4
  else if cmd = codeHeartbeat then .heartbeat dev p0 p1 p2 p3 p4
  else if cmd = codeEstop then .estop dev p0 p1 p2 p3 p4
  else if cmd = codeAnnounceCapabilities then .announceCapabilities dev p0 p1 p2 p3 p4
  else if cmd = codeServoZ then .servoZ dev p0 p1 p2 p3 p4
  else if cmd = codeTelemetry then .telemetry dev p0 p1 p2 p3 p4
  else .other dev cmd p0 p1 p2 p3 p4

/-- "Every 80-bit value is a legal input" (R49): a frame that fails a test is INVALID, any other is its command's arm (R48). -/
def decodeFrame (f : Frame) : Instr :=
  if frameValid f then
    decodeCommand (f.read 1) (f.read 2) (f.read 3) (f.read 4) (f.read 5) (f.read 6) (f.read 7)
  else .invalid f

/-- Why a list of bytes holds no frame. -/
inductive DecodeError where
  /-- Fewer than ten bytes: "there is one frame length, 10 bytes" (R40), and a frame of another length cannot be presented
  to the block (20_memory.md R26). Raised by decodeBytes; safe. -/
  | shortFrame
deriving DecidableEq, Repr

/-- The first frame of a list of bytes, byte 0 first (20_memory.md R29), and the bytes after it. -/
def decodeBytes : List Byte → Except DecodeError (Instr × List Byte)
  | b0 :: b1 :: b2 :: b3 :: b4 :: b5 :: b6 :: b7 :: b8 :: b9 :: rest =>
    .ok (decodeFrame #v[b0, b1, b2, b3, b4, b5, b6, b7, b8, b9], rest)
  | _ => .error .shortFrame

/-- The frame of a numbered word: bit 0 of `w` is bit 0 of byte 0, and bits above `nbits` are 0. -/
def frameOfWord (nbits w : Nat) : Frame := Frame.ofBits (BitVec.ofNat 80 (w % 2 ^ nbits))

/-- What the decoder reads from a word of the opcode table; no encoding is longer than 80 bits (R40). -/
def decodeTableWord (nbits w : Nat) : Option Instr :=
  if nbits ≤ 80 then
    match decodeBytes (frameOfWord nbits w).toList with
    | .ok (i, _) => some i
    | .error _ => none
  else none

/-- The frame of an instruction: FRAME10 with its row's command byte (R41, R48). The five block operations "have no opcode
and no select port" (R51), so they have no frame. -/
def encode : Instr → Option Frame
  | .joystick dev p0 p1 p2 p3 p4 => some (mkFrame dev codeJoystick p0 p1 p2 p3 p4)
  | .button dev p0 p1 p2 p3 p4 => some (mkFrame dev codeButton p0 p1 p2 p3 p4)
  | .heartbeat dev p0 p1 p2 p3 p4 => some (mkFrame dev codeHeartbeat p0 p1 p2 p3 p4)
  | .estop dev p0 p1 p2 p3 p4 => some (mkFrame dev codeEstop p0 p1 p2 p3 p4)
  | .announceCapabilities dev p0 p1 p2 p3 p4 => some (mkFrame dev codeAnnounceCapabilities p0 p1 p2 p3 p4)
  | .servoZ dev p0 p1 p2 p3 p4 => some (mkFrame dev codeServoZ p0 p1 p2 p3 p4)
  | .telemetry dev p0 p1 p2 p3 p4 => some (mkFrame dev codeTelemetry p0 p1 p2 p3 p4)
  | .other dev cmd p0 p1 p2 p3 p4 => some (mkFrame dev cmd p0 p1 p2 p3 p4)
  | .invalid frame => some frame
  | .validate _ => none
  | .checksum _ => none
  | .decode _ => none
  | .remap _ => none
  | .encodeTelemetry _ _ _ _ => none

end Sys2Proof
end

