-- ==== Sys2Proof/Config.lean ====
section
/-! DEFINITION. The synthesis-time parameters of 00_scope.md section 4 (R5), and the free values of
93_implementation_defined.md U10 to U12: constants without a body, so that no proof can see what they are. -/

namespace Sys2Proof

/-- `VOLT_MUL`: whether the product `10 * x` is rounded to binary32 before conversion (43_telemetry_encoder.md R86, D7). -/
inductive VoltMul where
  | binary32
  | exact
deriving DecidableEq, Repr

/-- `VOLT_ROUND`: how the product becomes a byte (43_telemetry_encoder.md R86, D8). -/
inductive VoltRound where
  | trunc
  | nearest
deriving DecidableEq, Repr

/-- `REMAP_IMPL`: the form of the axis remapper (42_axis_remapper.md R80, D10). -/
inductive RemapImpl where
  | linear
  | lut
deriving DecidableEq, Repr

/-- The parameters a model takes as configuration (R5). `axisW` is `AXIS_W`, legal from 9 up (D4). -/
structure Config where
  axisW : Nat
  voltMul : VoltMul
  voltRound : VoltRound
  voltNanByte : Byte
  outputReg : Bool
  remapImpl : RemapImpl
deriving DecidableEq, Repr

/-- The default values of 00_scope.md section 4.
DESIGN CHOICE (log 14, safe): `REMAP_IMPL` has no default in the spec; `linear` is taken, with no observable difference (R80). -/
def Config.byDefault : Config :=
  { axisW := 16, voltMul := .binary32, voltRound := .trunc, voltNanByte := 0x00#8, outputReg := false, remapImpl := .linear }

/-- "any value ≥ 9 is legal" (00_scope.md section 4, D4). -/
def Config.legal (c : Config) : Bool := decide (9 ≤ c.axisW)

/-- `T_PD`, the settling delay (70_reset_and_hazards.md R114), in whatever unit of time the `elapse` stimulus counts.
The source gives no value, so the model has none (U12; log 10). -/
opaque Config.tPd : Nat

/-- A free bit: draw number, then which port it is for (U10, U11; log 11). -/
opaque Config.freeBit : Nat → Nat → Bool

/-- A free byte: draw number, then which byte it is for (U10, U11; log 11). -/
opaque Config.freeByte : Nat → Nat → Byte

/-- A free 32-bit word: draw number, then which port it is for (U11; log 11). -/
opaque Config.freeWord32 : Nat → Nat → BitVec 32

/-- A free integer, cut to the width of an axis port where it is used: draw number, then which port it is for (U10, U11; log 11). -/
opaque Config.freeAxis : Nat → Nat → Int

end Sys2Proof
end

