-- ==== Sys2Proof/Machine/Operands.lean ====
section
/-! DEFINITION. The axis_remapper (42_axis_remapper.md) and the operand forms (30_encoding.md R44 to R46). -/

namespace Sys2Proof.Machine

/-- The linear datapath (R80): an 8-bit compare and select, then a 9-bit signed subtraction, sign-extended to `AXIS_W`. -/
def remapLinear (w : Nat) (raw : Byte) : BitVec w :=
  let c := if raw > remapClamp then remapClamp else raw
  (c.setWidth 9 - remapOffset.setWidth 9).signExtend w

/-- The table of the LUT form: `T[i] = min(i, 200) − 100` for i = 0..255 (R80). -/
def remapTable : List Int := (List.range 256).map fun i => ((min i remapClamp.toNat : Nat) : Int) - (remapOffset.toNat : Int)

/-- The LUT form (R80): the table's entry, in `AXIS_W`-bit two's complement. -/
def remapLut (w : Nat) (raw : Byte) : BitVec w := BitVec.ofInt w (remapTable.getD raw.toNat 0)

/-- `val[AXIS_W-1:0]` of an axis_remapper, in the form that `REMAP_IMPL` names (R77, R80). -/
def remapPort (c : Config) (raw : Byte) : BitVec c.axisW :=
  match c.remapImpl with
  | .linear => remapLinear c.axisW raw
  | .lut => remapLut c.axisW raw

/-- A *remapped* operand: the signed value on the remapper's port (30_encoding.md R45). -/
def remappedOperand (c : Config) (b : Byte) : Int := (remapPort c b).toInt

/-- A *raw* operand: the byte zero-extended to the `AXIS_W`-bit signed field (30_encoding.md R44). -/
def rawOperand (c : Config) (b : Byte) : Int := (b.setWidth c.axisW).toInt

/-- An *aux* operand: the byte unchanged (30_encoding.md R46). -/
def auxOperand (b : Byte) : Byte := b

/-- The `cmd` operand: the byte unchanged (30_encoding.md R47). -/
def cmdOperand (b : Byte) : Byte := b

/-- The bits of an `AXIS_W`-bit signed port that holds the value `v` (10_state.md R13, 42_axis_remapper.md R80). -/
def axisBits (c : Config) (v : Int) : BitVec c.axisW := BitVec.ofInt c.axisW v

end Sys2Proof.Machine
end

