-- ==== Sys2Proof/Machine/State.lean ====
section
/-! DEFINITION. The ports, registers and conditions of the block as plain data, the reasons to stop, and the machine right
after reset. -/

namespace Sys2Proof.Machine

/-- The ControlPacket bundle (10_state.md R20). A signed field holds the value of its `AXIS_W`-bit two's-complement port. -/
structure Packet where
  valid : Bool
  cmd : Byte
  leftX : Int
  leftY : Int
  rightX : Int
  rightY : Int
  rightZ : Int
  auxBits : Byte
deriving DecidableEq, Repr

/-- The output ports of the decode path (10_state.md R13) and of the encode path (R14): registers when `OUTPUT_REG` = 1 (R22). -/
structure Outputs where
  pkt : Packet
  startOk : Bool
  endOk : Bool
  chkOk : Bool
  chk : Byte
  telFrame : Frame
deriving DecidableEq, Repr

/-- The input ports (10_state.md R13, R14) and `rst` (R15), which the block reads only when `OUTPUT_REG` = 1. -/
structure Inputs where
  decFrame : Frame
  telDeviceId : Byte
  telVoltage : BitVec 32
  telStatusFlags : Byte
  telPacketsReceived : BitVec 32
  rst : Bool
deriving DecidableEq, Repr

/-- Whether the inputs have been stable for `T_PD` (70_reset_and_hazards.md R114). -/
inductive Settling where
  /-- Stable for at least `T_PD`. -/
  | settled
  /-- Stable for `t` so far, not yet known to reach `T_PD`. -/
  | settling (t : Nat)
deriving DecidableEq, Repr

/-- What a transaction reads (30_encoding.md R52, the column "result written as"). -/
inductive Reading where
  | valid (b : Bool)
  | chk (b : Byte)
  | packet (p : Packet)
  | val (v : Int)
  | frame (f : Frame)
deriving DecidableEq, Repr

/-- One thing the collaborator does (70_reset_and_hazards.md R113; log 1). -/
inductive Stimulus where
  /-- One line of a program: a transaction (30_encoding.md R52). -/
  | run (i : Instr)
  /-- New values on the input ports, with no wait (R114). -/
  | drive (x : Inputs)
  /-- Time passes, inputs stable (R114). -/
  | elapse (t : Nat)
  /-- A rising edge of `clk`, inputs stable over its window (10_state.md R22). -/
  | edge
  /-- A rising edge of `clk` while the inputs change to `x` inside its window (R115). -/
  | edgeWhileChanging (x : Inputs)
  /-- Power is lost and applied again (60_exceptions.md R109). -/
  | powerUp
deriving DecidableEq, Repr

/-- The machine: parameters, ports, the conditions the rules read, and the model's own fields. -/
structure State where
  /-- The synthesis parameters (00_scope.md R5); no step changes them (10_state.md R11; log 2). -/
  cfg : Config
  /-- The input ports. -/
  inp : Inputs
  /-- The output ports. -/
  out : Outputs
  /-- `axis_remapper.raw` of the remapper that REMAP drives (10_state.md R17; log 7). -/
  remapRaw : Byte
  /-- `axis_remapper.val` of that remapper (10_state.md R17; log 7). -/
  remapVal : Int
  /-- Whether the inputs have settled (70_reset_and_hazards.md R114; log 9). -/
  settling : Settling
  /-- A reset edge has occurred since power-up (70_reset_and_hazards.md R111; log 12). -/
  wasReset : Bool
  /-- The MODEL's own: how many draws of free values there have been (log 11). -/
  draws : Nat
  /-- The MODEL's own: what the collaborator does next (30_encoding.md R52; log 1). -/
  program : List Stimulus
  /-- The MODEL's own: "the list of outputs each transaction gives" (95_test_vectors.md section 3; log 1). -/
  results : List Reading
deriving DecidableEq, Repr

/-- Why the machine stops with a fault: never. "The block raises no synchronous exception, and no operation can fail in a way
that stops it or produces no output" (60_exceptions.md R95). Nobody raises one; nothing is unsafe here. -/
inductive Fault : Type where
deriving DecidableEq, Repr

/-- Why an instruction has no meaning. -/
inductive Refusal where
  /-- The instruction of that mnemonic is not modelled. Raised by no arm of exec: every row of the table has its meaning. Safe. -/
  | notModelled (mnemonic : String)
deriving DecidableEq, Repr

/-- The machine right after reset, in the default configuration. `OUTPUT_REG` = 0, so "there is nothing to reset" (10_state.md
R24): the outputs are those of the inputs, which are given no value by the spec.
DESIGN CHOICE (log 3, unsafe): every input port is zero. DEDUCED (log 4, unsafe): the outputs are the function of those inputs
(vectors V3 and T3 of 95_test_vectors.md). DESIGN CHOICE (log 7, unsafe): `axis_remapper.raw` is 0, so `val` is -100. -/
def State.reset : State :=
  { cfg := Config.byDefault
    inp :=
      { decFrame := #v[0x00, 0x00, 0x00, 0x00, 0x00, 0x00, 0x00, 0x00, 0x00, 0x00]
        telDeviceId := 0x00
        telVoltage := 0x00000000
        telStatusFlags := 0x00
        telPacketsReceived := 0
        rst := false }
    out :=
      { pkt :=
          { valid := false, cmd := 0x00, leftX := 0, leftY := 0, rightX := 0, rightY := 0, rightZ := 0, auxBits := 0x00 }
        startOk := false
        endOk := false
        chkOk := true
        chk := 0x00
        telFrame := #v[0xAA, 0x00, 0x10, 0x00, 0x00, 0x00, 0x00, 0x00, 0x10, 0x55] }
    remapRaw := 0x00
    remapVal := -100
    settling := .settled
    wasReset := true
    draws := 0
    program := []
    results := [] }

end Sys2Proof.Machine
end

