-- ==== Sys2Proof/Machine/Packets.lean ====
section
/-! DEFINITION. The ControlPacket of each dispatch arm and the choice among the arms (41_command_dispatcher.md R63 to R74). -/

namespace Sys2Proof.Machine

/-- The packet of an invalid frame: everything zero (R64). -/
def packetInvalid : Packet :=
  { valid := false, cmd := 0x00, leftX := 0, leftY := 0, rightX := 0, rightY := 0, rightZ := 0, auxBits := 0x00 }

/-- What every valid frame gives before its arm: `pkt.valid <- 1; pkt.cmd <- frame[2]; all other fields <- 0` (R63, R65). -/
def packetOfValid (f : Frame) : Packet := { packetInvalid with valid := true, cmd := cmdOperand (f.read 2) }

/-- JOYSTICK (R67). -/
def packetJoystick (c : Config) (f : Frame) : Packet :=
  { packetOfValid f with
    leftX := remappedOperand c (f.read 3)
    leftY := remappedOperand c (f.read 4)
    rightX := remappedOperand c (f.read 5)
    rightY := remappedOperand c (f.read 6)
    auxBits := auxOperand (f.read 7) }

/-- BUTTON (R68): both fields of byte 3 alias the same source byte. -/
def packetButton (c : Config) (f : Frame) : Packet :=
  { packetOfValid f with
    leftX := rawOperand c (f.read 3)
    leftY := rawOperand c (f.read 4)
    auxBits := auxOperand (f.read 3) }

/-- HEARTBEAT (R69): nothing beyond valid and cmd. -/
def packetHeartbeat (f : Frame) : Packet := packetOfValid f

/-- ESTOP (R70): nothing beyond valid and cmd. -/
def packetEstop (f : Frame) : Packet := packetOfValid f

/-- ANNOUNCE_CAPABILITIES (R71): nothing beyond valid and cmd. -/
def packetAnnounceCapabilities (f : Frame) : Packet := packetOfValid f

/-- SERVO_Z (R72). -/
def packetServoZ (c : Config) (f : Frame) : Packet :=
  { packetOfValid f with rightZ := remappedOperand c (f.read 3) }

/-- TELEMETRY on the decode path (R73): nothing beyond valid and cmd. -/
def packetTelemetry (f : Frame) : Packet := packetOfValid f

/-- OTHER (R74): nothing beyond valid and cmd. -/
def packetOther (f : Frame) : Packet := packetOfValid f

/-- The arm that `frame[2]` selects in a valid frame (R63, 30_encoding.md R48). -/
def packetOfCommand (c : Config) (f : Frame) : Packet :=
  if f.read 2 = codeJoystick then packetJoystick c f
  else if f.read 2 = codeButton then packetButton c f
  else if f.read 2 = codeHeartbeat then packetHeartbeat f
  else if f.read 2 = codeEstop then packetEstop f
  else if f.read 2 = codeAnnounceCapabilities then packetAnnounceCapabilities f
  else if f.read 2 = codeServoZ then packetServoZ c f
  else if f.read 2 = codeTelemetry then packetTelemetry f
  else packetOther f

/-- DECODE (R63): `v = VALIDATE(frame); if v == 0 then INVALID else` the arm. -/
def decodePacket (c : Config) (f : Frame) : Packet := if frameValid f then packetOfCommand c f else packetInvalid

end Sys2Proof.Machine
end

