-- ==== Sys2Proof/Machine/Voltage.lean ====
section
/-! DEFINITION. The voltage byte (43_telemetry_encoder.md R83 to R87, 00_scope.md R7), computed exactly in integers: every
finite binary32 value and every product 10 * x is an integer number of units of 2^-149 (DEDUCED, log 16, safe). -/

namespace Sys2Proof.Machine

/-- How many units of 2^-149 make 1: the least positive binary32 value is one unit (R87). -/
def unitsPerVolt : Nat := 2 ^ 149

/-- Bit 31 of a binary32 pattern (R87). -/
def floatSign (f : BitVec 32) : Bool := f.getLsbD 31

/-- Bits 30..23 of a binary32 pattern (R87). -/
def floatExp (f : BitVec 32) : Nat := (f.extractLsb' 23 8).toNat

/-- Bits 22..0 of a binary32 pattern (R87). -/
def floatFrac (f : BitVec 32) : Nat := (f.extractLsb' 0 23).toNat

/-- NaN: exponent 255, fraction not 0 (R87). -/
def floatIsNaN (f : BitVec 32) : Bool := floatExp f == 255 && floatFrac f != 0

/-- Infinity: exponent 255, fraction 0 (R87). -/
def floatIsInf (f : BitVec 32) : Bool := floatExp f == 255 && floatFrac f == 0

/-- The magnitude of a finite binary32 value in units of 2^-149: `2^(e-127) * (1 + m/2^23)` for e in 1..254, and
`2^-126 * (m/2^23)` for e = 0 (R87). -/
def floatUnits (f : BitVec 32) : Nat :=
  if floatExp f = 0 then floatFrac f else (2 ^ 23 + floatFrac f) * 2 ^ (floatExp f - 1)

/-- `RNE32(q)` in units of 2^-149, for q at least 2^-126 (00_scope.md R7): m is q scaled to 24 bits and rounded to the
nearest integer, ties to even; the result is m scaled back. -/
def rne32 (q : Nat) : Nat :=
  let shift := Nat.log2 q - 23
  let m := q / 2 ^ shift
  let rest := q % 2 ^ shift
  let up := decide (2 ^ shift < 2 * rest) || (decide (2 * rest = 2 ^ shift) && decide (m % 2 = 1))
  (if up then m + 1 else m) * 2 ^ shift

/-- The product `p` of R86: `10 * x`, rounded to binary32 when `VOLT_MUL` says so and it is at least 2^-126, which is 2^23 units. -/
def voltProduct (c : Config) (x : Nat) : Nat :=
  let q := voltScale * x
  match c.voltMul with
  | .binary32 => if 2 ^ 23 ≤ q then rne32 q else q
  | .exact => q

/-- The conversion of R86: `trunc(p)` or `roundHalfUp(p)` (00_scope.md R6). -/
def voltConvert (c : Config) (p : Nat) : Nat :=
  match c.voltRound with
  | .trunc => p / unitsPerVolt
  | .nearest => (2 * p + unitsPerVolt) / (2 * unitsPerVolt)

/-- The byte of a clamped positive voltage (R86). The conversion is at most 250, so the byte never wraps. -/
def voltByteOf (c : Config) (x : Nat) : Byte := BitVec.ofNat 8 (voltConvert c (voltProduct c x))

/-- `f == +inf or val(f) > 25` (R83, R86). -/
def voltAboveMax (f : BitVec 32) : Bool :=
  !floatSign f && (floatIsInf f || decide (voltMax * unitsPerVolt < floatUnits f))

/-- `f == -inf or val(f) <= 0` (R84, R86). -/
def voltNotPositive (f : BitVec 32) : Bool := floatSign f || floatUnits f == 0

/-- `voltbyte(f)` (R86): the four branches, in the rule's order. -/
def voltByte (c : Config) (f : BitVec 32) : Byte :=
  if floatIsNaN f then c.voltNanByte
  else if voltAboveMax f then voltByteOf c (voltMax * unitsPerVolt)
  else if voltNotPositive f then 0x00#8
  else voltByteOf c (floatUnits f)

end Sys2Proof.Machine
end

