-- ==== Sys2Proof/Machine/Ops.lean ====
section
/-! DEFINITION. The operations that the instructions share: the two paths as functions of the inputs, the output stage, driving
ports, reading ports, and what the collaborator does between transactions. There is no operation that takes an exception:
"No trap is ever entered" (60_exceptions.md R100). The response to an invalid frame is the zero packet (packetInvalid). -/

namespace Sys2Proof.Machine

/-- `tel_frame`: the frame that ENCODE_TELEMETRY writes, byte by byte (43_telemetry_encoder.md R81, R82, R86, R88 to R92). -/
def telemetryFrame (c : Config) (dev : Byte) (voltage : BitVec 32) (flags : Byte) (cnt : BitVec 32) : Frame :=
  let f := Frame.zero
  let f := f.write 0 startByte
  let f := f.write 1 dev
  let f := f.write 2 codeTelemetry
  let f := f.write 3 (voltByte c voltage)
  let f := f.write 4 flags
  let f := f.write 5 (cnt.extractLsb' 0 8)
  let f := f.write 6 0x00#8
  let f := f.write 7 0x00#8
  let f := f.write 8 (checksum f)
  f.write 9 endByte

/-- The output ports of both paths for the inputs `x`, with the packet `p` on the ControlPacket ports
(10_state.md R10, R18, R19; 30_encoding.md R51). -/
def outputsWith (c : Config) (x : Inputs) (p : Packet) : Outputs :=
  { pkt := p
    startOk := startOk x.decFrame
    endOk := endOk x.decFrame
    chkOk := chkOk x.decFrame
    chk := checksum x.decFrame
    telFrame := telemetryFrame c x.telDeviceId x.telVoltage x.telStatusFlags x.telPacketsReceived }

/-- The combinational function of the block (00_scope.md R4: "Every output is a function of the current inputs alone"). -/
def outputsOf (c : Config) (x : Inputs) : Outputs := outputsWith c x (decodePacket c x.decFrame)

/-- The reset values of the output registers (10_state.md R23). -/
def resetOutputs : Outputs :=
  { pkt := packetInvalid, startOk := false, endOk := false, chkOk := false, chk := 0x00#8, telFrame := Frame.zero }

/-- A free value on an `AXIS_W`-bit signed port (U10, U11). -/
def freeAxisPort (c : Config) (draw port : Nat) : Int := (BitVec.ofInt c.axisW (Config.freeAxis draw port)).toInt

/-- Ten free bytes, numbered from `at0` (U11). -/
def freeFrame (draw at0 : Nat) : Frame :=
  #v[Config.freeByte draw at0, Config.freeByte draw (at0 + 1), Config.freeByte draw (at0 + 2), Config.freeByte draw (at0 + 3),
     Config.freeByte draw (at0 + 4), Config.freeByte draw (at0 + 5), Config.freeByte draw (at0 + 6),
     Config.freeByte draw (at0 + 7), Config.freeByte draw (at0 + 8), Config.freeByte draw (at0 + 9)]

/-- "A draw over every output value" (U10, U11). -/
def freeOutputs (c : Config) (draw : Nat) : Outputs :=
  { pkt :=
      { valid := Config.freeBit draw 0
        cmd := Config.freeByte draw 0
        leftX := freeAxisPort c draw 0
        leftY := freeAxisPort c draw 1
        rightX := freeAxisPort c draw 2
        rightY := freeAxisPort c draw 3
        rightZ := freeAxisPort c draw 4
        auxBits := Config.freeByte draw 1 }
    startOk := Config.freeBit draw 1
    endOk := Config.freeBit draw 2
    chkOk := Config.freeBit draw 3
    chk := Config.freeByte draw 2
    telFrame := freeFrame draw 3 }

/-- What a clock edge may sample while the inputs change inside its window: "a draw over every 80-bit value" for the frame
(70_reset_and_hazards.md R115), and a draw over all values for every other port, held or not (log 11). -/
def sampleInWindow (draw : Nat) : Inputs :=
  { decFrame := freeFrame draw 0
    telDeviceId := Config.freeByte draw 10
    telVoltage := Config.freeWord32 draw 0
    telStatusFlags := Config.freeByte draw 11
    telPacketsReceived := Config.freeWord32 draw 1
    rst := Config.freeBit draw 5 }

/-- What the output registers load at such an edge: the sample, which "the block then evaluates like any other" frame
(70_reset_and_hazards.md R115), or "a draw over every output value" (93_implementation_defined.md U11, D18). A free bit
chooses (log 11). -/
def windowOutputs (c : Config) (draw : Nat) : Outputs :=
  if Config.freeBit draw 4 then outputsOf c (sampleInWindow draw) else freeOutputs c draw

/-- Any value on every output port (R111, R114); the draw is counted. -/
def drawOutputs (s : State) : State := { s with out := freeOutputs s.cfg s.draws, draws := s.draws + 1 }

/-- A rising edge of `clk` at which `rst` and the function value `o` are sampled: the reset values when `rst` is 1 (10_state.md
R23), `o` when it is 0 (R22), and any value while no reset edge has occurred since power-up (70_reset_and_hazards.md R111). -/
def registerEdge (rst : Bool) (o : Outputs) (s : State) : State :=
  if rst then { s with out := resetOutputs, wasReset := true }
  else if s.wasReset then { s with out := o }
  else drawOutputs s

/-- The output stage: one rising edge when `OUTPUT_REG` = 1, the function value itself when `OUTPUT_REG` = 0 (10_state.md R22, R24). -/
def publish (o : Outputs) (s : State) : State :=
  if s.cfg.outputReg then registerEdge s.inp.rst o s else { s with out := o }

/-- One evaluation with the packet `p` on the decode path: wait out the settling delay, or take one clean edge
(70_reset_and_hazards.md R112; log 8). -/
def evaluate (p : Packet) (s : State) : State :=
  { publish (outputsWith s.cfg s.inp p) s with settling := .settled }

/-- Drive the ten bytes of a frame on `dec_frame` (30_encoding.md R52). -/
def driveFrame (f : Frame) (s : State) : State :=
  { s with inp := { s.inp with decFrame := f }, settling := .settling 0 }

/-- Drive the four `tel_*` ports (30_encoding.md R52). -/
def driveTelemetry (dev : Byte) (voltage : BitVec 32) (flags : Byte) (cnt : BitVec 32) (s : State) : State :=
  { s with
    inp :=
      { s.inp with telDeviceId := dev, telVoltage := voltage, telStatusFlags := flags, telPacketsReceived := cnt }
    settling := .settling 0 }

/-- Drive `axis_remapper.raw`; `val` follows (10_state.md R17, 42_axis_remapper.md R77). -/
def driveRemapper (raw : Byte) (s : State) : State :=
  { s with remapRaw := raw, remapVal := remappedOperand s.cfg raw }

/-- Drive a frame on `dec_frame` and evaluate, with the packet `p` on the decode path. -/
def evaluateFrame (f : Frame) (p : Packet) (s : State) : State := evaluate p (driveFrame f s)

/-- Write down what a transaction reads (30_encoding.md R52). -/
def record (r : Reading) (s : State) : State := { s with results := s.results ++ [r] }

/-- Read the ControlPacket outputs, as DECODE does (30_encoding.md R52). -/
def readPacket (s : State) : State := record (.packet s.out.pkt) s

/-- Read `dec_valid`, as VALIDATE does (30_encoding.md R52). -/
def readValid (s : State) : State := record (.valid s.out.pkt.valid) s

/-- Read `dec_chk`, as CHECKSUM does (30_encoding.md R52). -/
def readChk (s : State) : State := record (.chk s.out.chk) s

/-- Read `axis_remapper.val`, as REMAP does (30_encoding.md R52). -/
def readVal (s : State) : State := record (.val s.remapVal) s

/-- Read `tel_frame`, as ENCODE_TELEMETRY does (30_encoding.md R52). -/
def readTelFrame (s : State) : State := record (.frame s.out.telFrame) s

/-- The outputs without a clock edge: with `OUTPUT_REG` = 0 they are the function of the inputs once settled, and any value
before (70_reset_and_hazards.md R114); registers keep their values (10_state.md R22). -/
def showOutputs (s : State) : State :=
  if s.cfg.outputReg then s
  else
    match s.settling with
    | .settled => { s with out := outputsOf s.cfg s.inp }
    | .settling _ => drawOutputs s

/-- The collaborator puts new values on the input ports and does not wait (R113, R114; log 9). -/
def driveInputs (x : Inputs) (s : State) : State := showOutputs { s with inp := x, settling := .settling 0 }

/-- How settled the inputs are after `t` more units of time (R114). -/
def settleBy (t : Nat) : Settling → Settling
  | .settled => .settled
  | .settling u => if Config.tPd ≤ u + t then .settled else .settling (u + t)

/-- Time passes with the inputs stable (R114). -/
def elapse (t : Nat) (s : State) : State := showOutputs { s with settling := settleBy t s.settling }

/-- A clean rising edge of `clk`; with `OUTPUT_REG` = 0 there is no clock input (10_state.md R15, R22). -/
def clockEdge (s : State) : State :=
  if s.cfg.outputReg then registerEdge s.inp.rst (outputsOf s.cfg s.inp) s else s

/-- A rising edge of `clk` while the inputs change to `x` inside its window (70_reset_and_hazards.md R115). `rst` is sampled as it
is where it ends as it began, and then overrides the sample (R23, R111); where it changes it is a draw too. -/
def clockEdgeWhileChanging (x : Inputs) (s : State) : State :=
  if s.cfg.outputReg then
    let rst := if s.inp.rst = x.rst then x.rst else (sampleInWindow s.draws).rst
    { registerEdge rst (windowOutputs s.cfg s.draws) { s with draws := s.draws + 1 } with
      inp := x
      settling := .settling 0 }
  else driveInputs x s

/-- Power is lost and applied again: the registers hold any value until a reset edge (60_exceptions.md R109,
70_reset_and_hazards.md R111), and combinational outputs settle anew (R114). -/
def powerUp (s : State) : State := drawOutputs { s with wasReset := false, settling := .settling 0 }

/-- The instruction that the frame standing on `dec_frame` selects (30_encoding.md R48). -/
def standingInstr (s : State) : Instr := decodeFrame s.inp.decFrame

/-- The state with the frame `f` driven on `dec_frame` and no stimulus pending (log 1). -/
def placeFrame (f : Frame) (s : State) : State := { driveFrame f s with program := [] }

end Sys2Proof.Machine
end

