-- ==== Sys2Proof/Machine/AxisRemapper.lean ====
section
/-! DEFINITION. The operation of the axis remapper (42_axis_remapper.md). -/

namespace Sys2Proof.Machine

/-- REMAP (R77): drive one `axis_remapper.raw`, read `val`. The sub-block stands on its own (10_state.md R17): no port of the top
level takes part (log 7). -/
def execRemap (raw : Byte) (s : State) : Host.Outcome State Fault Refusal :=
  .next (readVal (driveRemapper raw s))

end Sys2Proof.Machine
end

