-- ==== Sys2Proof/Machine/CommandDispatcher.lean ====
section
/-! DEFINITION. DECODE and its arms (41_command_dispatcher.md). Each arm is one evaluation of its frame on `dec_frame`. -/

namespace Sys2Proof.Machine

/-- DECODE (R63): drive `dec_frame`, read the ControlPacket outputs. -/
def execDecode (f : Frame) (s : State) : Host.Outcome State Fault Refusal :=
  .next (readPacket (evaluateFrame f (decodePacket s.cfg f) s))

/-- JOYSTICK (R67). -/
def execJoystick (dev p0 p1 p2 p3 p4 : Byte) (s : State) : Host.Outcome State Fault Refusal :=
  let f := mkFrame dev codeJoystick p0 p1 p2 p3 p4
  .next (readPacket (evaluateFrame f (packetJoystick s.cfg f) s))

/-- BUTTON (R68). -/
def execButton (dev p0 p1 p2 p3 p4 : Byte) (s : State) : Host.Outcome State Fault Refusal :=
  let f := mkFrame dev codeButton p0 p1 p2 p3 p4
  .next (readPacket (evaluateFrame f (packetButton s.cfg f) s))

/-- HEARTBEAT (R69). -/
def execHeartbeat (dev p0 p1 p2 p3 p4 : Byte) (s : State) : Host.Outcome State Fault Refusal :=
  let f := mkFrame dev codeHeartbeat p0 p1 p2 p3 p4
  .next (readPacket (evaluateFrame f (packetHeartbeat f) s))

/-- ESTOP (R70): "the block performs no stop action itself". -/
def execEstop (dev p0 p1 p2 p3 p4 : Byte) (s : State) : Host.Outcome State Fault Refusal :=
  let f := mkFrame dev codeEstop p0 p1 p2 p3 p4
  .next (readPacket (evaluateFrame f (packetEstop f) s))

/-- ANNOUNCE_CAPABILITIES (R71). -/
def execAnnounceCapabilities (dev p0 p1 p2 p3 p4 : Byte) (s : State) : Host.Outcome State Fault Refusal :=
  let f := mkFrame dev codeAnnounceCapabilities p0 p1 p2 p3 p4
  .next (readPacket (evaluateFrame f (packetAnnounceCapabilities f) s))

/-- SERVO_Z (R72). -/
def execServoZ (dev p0 p1 p2 p3 p4 : Byte) (s : State) : Host.Outcome State Fault Refusal :=
  let f := mkFrame dev codeServoZ p0 p1 p2 p3 p4
  .next (readPacket (evaluateFrame f (packetServoZ s.cfg f) s))

/-- TELEMETRY on the decode path (R73): "The decoder does not extract the voltage, status or counter bytes". -/
def execTelemetry (dev p0 p1 p2 p3 p4 : Byte) (s : State) : Host.Outcome State Fault Refusal :=
  let f := mkFrame dev codeTelemetry p0 p1 p2 p3 p4
  .next (readPacket (evaluateFrame f (packetTelemetry f) s))

/-- OTHER (R74). A term whose code is one of the enumeration is not a term of this row (Instr.wellFormed): its frame is then
evaluated as the block evaluates that frame (log 19). -/
def execOther (dev cmd p0 p1 p2 p3 p4 : Byte) (s : State) : Host.Outcome State Fault Refusal :=
  let f := mkFrame dev cmd p0 p1 p2 p3 p4
  .next (readPacket (evaluateFrame f (if isOtherCode cmd then packetOther f else packetOfCommand s.cfg f) s))

/-- INVALID (R64). A term whose frame passes VALIDATE is not a term of this row (Instr.wellFormed): it is then evaluated as the
block evaluates that frame (log 19). -/
def execInvalid (f : Frame) (s : State) : Host.Outcome State Fault Refusal :=
  .next (readPacket (evaluateFrame f (if frameValid f then packetOfCommand s.cfg f else packetInvalid) s))

end Sys2Proof.Machine
end

