-- ==== Sys2Proof/Machine/FrameValidator.lean ====
section
/-! DEFINITION. The operations of the frame validator (40_frame_validator.md). -/

namespace Sys2Proof.Machine

/-- CHECKSUM (R59): drive `dec_frame`, read `dec_chk`. No flag of its own, no exception. -/
def execChecksum (f : Frame) (s : State) : Host.Outcome State Fault Refusal :=
  .next (readChk (evaluateFrame f (decodePacket s.cfg f) s))

/-- VALIDATE (R60): drive `dec_frame`, read `dec_valid`; the flags `start_ok`, `end_ok`, `chk_ok` and `valid` are written. -/
def execValidate (f : Frame) (s : State) : Host.Outcome State Fault Refusal :=
  .next (readValid (evaluateFrame f (decodePacket s.cfg f) s))

end Sys2Proof.Machine
end

