-- ==== Sys2Proof/Machine/TelemetryEncoder.lean ====
section
/-! DEFINITION. The operation of the telemetry encoder (43_telemetry_encoder.md). -/

namespace Sys2Proof.Machine

/-- ENCODE_TELEMETRY (R81): drive the four `tel_*` ports, read `tel_frame`. The frame on `dec_frame` stands as it was (10_state.md R16). -/
def execEncodeTelemetry (dev : Byte) (voltage : BitVec 32) (flags : Byte) (cnt : BitVec 32) (s : State) :
    Host.Outcome State Fault Refusal :=
  .next (readTelFrame (evaluate (decodePacket s.cfg s.inp.decFrame) (driveTelemetry dev voltage flags cnt s)))

end Sys2Proof.Machine
end

