-- ==== Sys2Proof/Machine/Dispatch.lean ====
section
/-! DEFINITION. One arm per row of spec/opcode_table.json. -/

namespace Sys2Proof.Machine

def exec (i : Instr) (s : State) : Host.Outcome State Fault Refusal :=
  match i with
  | .joystick dev p0 p1 p2 p3 p4 => Sys2Proof.Machine.execJoystick dev p0 p1 p2 p3 p4 s
  | .button dev p0 p1 p2 p3 p4 => Sys2Proof.Machine.execButton dev p0 p1 p2 p3 p4 s
  | .heartbeat dev p0 p1 p2 p3 p4 => Sys2Proof.Machine.execHeartbeat dev p0 p1 p2 p3 p4 s
  | .estop dev p0 p1 p2 p3 p4 => Sys2Proof.Machine.execEstop dev p0 p1 p2 p3 p4 s
  | .announceCapabilities dev p0 p1 p2 p3 p4 => Sys2Proof.Machine.execAnnounceCapabilities dev p0 p1 p2 p3 p4 s
  | .servoZ dev p0 p1 p2 p3 p4 => Sys2Proof.Machine.execServoZ dev p0 p1 p2 p3 p4 s
  | .telemetry dev p0 p1 p2 p3 p4 => Sys2Proof.Machine.execTelemetry dev p0 p1 p2 p3 p4 s
  | .other dev cmd p0 p1 p2 p3 p4 => Sys2Proof.Machine.execOther dev cmd p0 p1 p2 p3 p4 s
  | .invalid frame => Sys2Proof.Machine.execInvalid frame s
  | .validate frame => Sys2Proof.Machine.execValidate frame s
  | .checksum frame => Sys2Proof.Machine.execChecksum frame s
  | .decode frame => Sys2Proof.Machine.execDecode frame s
  | .remap raw => Sys2Proof.Machine.execRemap raw s
  | .encodeTelemetry dev voltage flags cnt => Sys2Proof.Machine.execEncodeTelemetry dev voltage flags cnt s

end Sys2Proof.Machine
end

