-- ==== Sys2Proof/Machine/Step.lean ====
section
/-! DEFINITION. One step: the collaborator's next stimulus, or, when none is pending, an evaluation of the frame that stands on
`dec_frame` (log 1). -/

namespace Sys2Proof.Machine

/-- One step. A transaction and a standing frame run their instruction; the other stimuli are the collaborator's own acts. -/
def step (s : State) : Host.Outcome State Fault Refusal :=
  match s.program with
  | [] => exec (standingInstr s) s
  | .run i :: rest => exec i { s with program := rest }
  | .drive x :: rest => .next (driveInputs x { s with program := rest })
  | .elapse t :: rest => .next (elapse t { s with program := rest })
  | .edge :: rest => .next (clockEdge { s with program := rest })
  | .edgeWhileChanging x :: rest => .next (clockEdgeWhileChanging x { s with program := rest })
  | .powerUp :: rest => .next (powerUp { s with program := rest })

/-- The word of the opcode table standing on `dec_frame`, where the next step takes its instruction from (log 1). -/
def State.withFetchWord (s : State) (nbits w : Nat) : State := placeFrame (frameOfWord nbits w) s

end Sys2Proof.Machine
end

