-- ==== Sys2Proof/Machine/Netlist.lean ====
section
/-! DEFINITION. The block as its five sub-blocks with their ports (10_state.md R17) and the wiring of the top level (R18):
the structural form, for comparison with outputsOf, which follows the operations' own rules. -/

namespace Sys2Proof.Machine

/-- `sentinel_detector`: `start_ok`, `end_ok`, `sentinel_ok` (R17; 40_frame_validator.md R54 to R56). -/
def netSentinelDetector (b0 b9 : Byte) : Bool × Bool × Bool :=
  let start := b0 == startByte
  let fin := b9 == endByte
  (start, fin, start && fin)

/-- `checksum_validator`: `chk`, `chk_ok` (R17), as the balanced XOR tree that 40_frame_validator.md R57 gives as its example. -/
def netChecksumValidator (b1 b2 b3 b4 b5 b6 b7 b8 : Byte) : Byte × Bool :=
  let chk := ((b1 ^^^ b2) ^^^ (b3 ^^^ b4)) ^^^ ((b5 ^^^ b6) ^^^ b7)
  (chk, b8 == chk)

/-- `command_dispatcher`: three select lines and a gated multiplexer per field (R17; 41_command_dispatcher.md R75). The ports `b5`
and `b6` reach no multiplexer: bytes 5 and 6 are used remapped alone, on `r5` and `r6`. -/
def netCommandDispatcher (w : Nat) (valid : Bool) (b2 b3 b4 _b5 _b6 b7 : Byte) (r3 r4 r5 r6 : BitVec w) : Packet :=
  let isJoy := b2 == codeJoystick
  let isBtn := b2 == codeButton
  let isSrv := b2 == codeServoZ
  { valid := valid
    cmd := if valid then b2 else 0x00#8
    leftX := (if valid && isJoy then r3 else if valid && isBtn then b3.setWidth w else 0#w).toInt
    leftY := (if valid && isJoy then r4 else if valid && isBtn then b4.setWidth w else 0#w).toInt
    rightX := (if valid && isJoy then r5 else 0#w).toInt
    rightY := (if valid && isJoy then r6 else 0#w).toInt
    rightZ := (if valid && isSrv then r3 else 0#w).toInt
    auxBits := if valid && isJoy then b7 else if valid && isBtn then b3 else 0x00#8 }

/-- `telemetry_encoder`: the ten bytes with the second checksum instance `chk_enc`, whose `chk_ok` is unused (R17, R18).
DESIGN CHOICE (log 23, safe): the spec names no driver for the `b8` of `chk_enc`; 0x00 is tied to it, and reaches no output. -/
def netTelemetryEncoder (c : Config) (dev : Byte) (voltage : BitVec 32) (flags : Byte) (cnt : BitVec 32) : Frame :=
  let vb := voltByte c voltage
  let count := cnt.setWidth 8
  let chkEnc := netChecksumValidator dev codeTelemetry vb flags count 0x00#8 0x00#8 0x00#8
  #v[startByte, dev, codeTelemetry, vb, flags, count, 0x00#8, 0x00#8, chkEnc.1, endByte]

/-- The top level of `ardunakon_core`: sub-blocks wired as R18 says. -/
def netTop (c : Config) (x : Inputs) : Outputs :=
  let f := x.decFrame
  let sentinel := netSentinelDetector (f.read 0) (f.read 9)
  let chkDec :=
    netChecksumValidator (f.read 1) (f.read 2) (f.read 3) (f.read 4) (f.read 5) (f.read 6) (f.read 7) (f.read 8)
  let valid := sentinel.2.2 && chkDec.2
  { pkt :=
      netCommandDispatcher c.axisW valid (f.read 2) (f.read 3) (f.read 4) (f.read 5) (f.read 6) (f.read 7)
        (remapPort c (f.read 3)) (remapPort c (f.read 4)) (remapPort c (f.read 5)) (remapPort c (f.read 6))
    startOk := sentinel.1
    endOk := sentinel.2.1
    chkOk := chkDec.2
    chk := chkDec.1
    telFrame := netTelemetryEncoder c x.telDeviceId x.telVoltage x.telStatusFlags x.telPacketsReceived }

end Sys2Proof.Machine
end

