-- ==== Sys2Proof/Safety.lean ====
section
/-! DEFINITION. The words that claims about the block use: when an evaluation shows its result, what it then leaves, the
invariant of the states, what each path can observe, and the voltage byte in exact rationals as the spec writes it. -/

namespace Sys2Proof.Machine

/-! ## When an evaluation shows its result -/

/-- An evaluation shows its function value: there is no output register, or `rst` is 0 at the edge and a reset edge has occurred
since power-up (10_state.md R22, R24; 70_reset_and_hazards.md R111). -/
def State.Shows (s : State) : Prop := s.cfg.outputReg = false ∨ (s.inp.rst = false ∧ s.wasReset = true)

/-- An evaluation is a reset edge (10_state.md R23). -/
def State.InReset (s : State) : Prop := s.cfg.outputReg = true ∧ s.inp.rst = true

/-- The outputs have settled and there is no register between them and the inputs (10_state.md R24, 70_reset_and_hazards.md R114). -/
def State.Follows (s : State) : Prop := s.cfg.outputReg = false ∧ s.settling = .settled

/-! ## What an evaluation leaves -/

/-- A packet whose numeric fields are all 0 (41_command_dispatcher.md R65). -/
def blankPacket (valid : Bool) (cmd : Byte) : Packet :=
  { valid := valid, cmd := cmd, leftX := 0, leftY := 0, rightX := 0, rightY := 0, rightZ := 0, auxBits := 0x00#8 }

/-- `min(raw, 200) − 100` over the integers (42_axis_remapper.md R77). -/
def remapValue (raw : Byte) : Int := min (raw.toNat : Int) 200 - 100

/-- The state after a transaction that drove `f` on `dec_frame`, gave the packet `p` and read `r`: the flags and `dec_chk` are
those of `f` (10_state.md R19, 40_frame_validator.md R57), `tel_frame` is that of the `tel_*` ports, which stand as they were,
and nothing else changes. -/
def State.shownFrame (s : State) (f : Frame) (p : Packet) (r : Reading) : State :=
  { s with
    inp := { s.inp with decFrame := f }
    out :=
      { pkt := p
        startOk := decide (f.read 0 = 0xAA#8)
        endOk := decide (f.read 9 = 0x55#8)
        chkOk := decide (f.read 8 =
          f.read 1 ^^^ f.read 2 ^^^ f.read 3 ^^^ f.read 4 ^^^ f.read 5 ^^^ f.read 6 ^^^ f.read 7)
        chk := f.read 1 ^^^ f.read 2 ^^^ f.read 3 ^^^ f.read 4 ^^^ f.read 5 ^^^ f.read 6 ^^^ f.read 7
        telFrame :=
          telemetryFrame s.cfg s.inp.telDeviceId s.inp.telVoltage s.inp.telStatusFlags s.inp.telPacketsReceived }
    settling := .settled
    results := s.results ++ [r] }

/-- A frame whose byte 0 is START, byte 9 is END, and byte 8 is XOR(1..7) (00_scope.md section 6, "Well-formed"). -/
def frameWellFormed (f : Frame) : Prop :=
  f.read 0 = 0xAA#8 ∧ f.read 9 = 0x55#8 ∧
  f.read 8 = f.read 1 ^^^ f.read 2 ^^^ f.read 3 ^^^ f.read 4 ^^^ f.read 5 ^^^ f.read 6 ^^^ f.read 7

/-- In how many of the bytes 1..8 two frames differ at bit k (40_frame_validator.md R61). -/
def diffCount (f g : Frame) (k : Nat) : Nat :=
  ([1, 2, 3, 4, 5, 6, 7, 8] : List (Fin 10)).countP fun i => (f.read i).getLsbD k != (g.read i).getLsbD k

/-- A way to reduce bytes of a frame by XOR, two at a time (00_scope.md R6, 40_frame_validator.md R57). -/
inductive Bracketing where
  | byte (i : Fin 10)
  | xor (l r : Bracketing)
deriving DecidableEq, Repr

/-- The bytes that a bracketing takes, from left to right. -/
def Bracketing.leaves : Bracketing → List (Fin 10)
  | .byte i => [i]
  | .xor l r => l.leaves ++ r.leaves

/-- The byte that a bracketing gives. -/
def Bracketing.eval (f : Frame) : Bracketing → Byte
  | .byte i => f.read i
  | .xor l r => l.eval f ^^^ r.eval f

/-- Any value on the output registers after draw `d`: a draw over every output value (U11), or the function of inputs whose frame
is a draw over every 80-bit value (70_reset_and_hazards.md R115). -/
def AnyOutputs (c : Config) (d : Nat) (o : Outputs) : Prop :=
  o = freeOutputs c d ∨ ∃ y : Inputs, y.decFrame = freeFrame d 0 ∧ o = outputsOf c y

/-! ## The invariant -/

/-- A value that an `AXIS_W`-bit signed port can hold (10_state.md R13). -/
def fitsAxis (c : Config) (v : Int) : Prop := -(2 ^ (c.axisW - 1) : Int) ≤ v ∧ v < 2 ^ (c.axisW - 1)

/-- Every signed field of a packet fits its port (10_state.md R13, R20). -/
def Packet.Fits (c : Config) (p : Packet) : Prop :=
  fitsAxis c p.leftX ∧ fitsAxis c p.leftY ∧ fitsAxis c p.rightX ∧ fitsAxis c p.rightY ∧ fitsAxis c p.rightZ

/-- What holds of the block between steps: a legal `AXIS_W`; every signed port holds a value of its width; the stand-alone
remapper follows its input; combinational outputs that have settled are the function of the inputs (R24, R114); registered
outputs are the reset values, the function of some inputs, or a draw already made (R22, R23, R111, R115). -/
structure State.Inv (s : State) : Prop where
  legal : s.cfg.legal = true
  fits : s.out.pkt.Fits s.cfg
  remapper : s.remapVal = remappedOperand s.cfg s.remapRaw
  follows : s.Follows → s.out = outputsOf s.cfg s.inp
  registered : s.cfg.outputReg = true →
    s.out = resetOutputs ∨ (∃ x, s.out = outputsOf s.cfg x) ∨ ∃ d < s.draws, s.out = freeOutputs s.cfg d

/-- Registered outputs, once reset, are the reset values or the function of some inputs (R22, R23): what steps keep while every
edge is clean (R115). -/
def State.RegistersSound (s : State) : Prop :=
  s.cfg.outputReg = true → s.wasReset = true → s.out = resetOutputs ∨ ∃ x, s.out = outputsOf s.cfg x

/-! ## What each path can observe (10_state.md R16) -/

/-- Two states agree on the parameters and on what the output stage reads. -/
def State.SameStage (s t : State) : Prop :=
  s.cfg = t.cfg ∧ s.inp.rst = t.inp.rst ∧ s.wasReset = t.wasReset ∧ s.draws = t.draws

/-- Two states agree on everything of the decode path: its input and its outputs. -/
def State.SameDecodePath (s t : State) : Prop :=
  s.SameStage t ∧ s.inp.decFrame = t.inp.decFrame ∧ s.out.pkt = t.out.pkt ∧ s.out.startOk = t.out.startOk ∧
  s.out.endOk = t.out.endOk ∧ s.out.chkOk = t.out.chkOk ∧ s.out.chk = t.out.chk

/-- Two states agree on everything of the encode path: its inputs and its output. -/
def State.SameEncodePath (s t : State) : Prop :=
  s.SameStage t ∧ s.inp.telDeviceId = t.inp.telDeviceId ∧ s.inp.telVoltage = t.inp.telVoltage ∧
  s.inp.telStatusFlags = t.inp.telStatusFlags ∧ s.inp.telPacketsReceived = t.inp.telPacketsReceived ∧
  s.out.telFrame = t.out.telFrame

/-- The instructions that drive `dec_frame`, with the frame they drive: those with an encoding, and the three transactions. -/
def drivenFrame : Instr → Option Frame
  | .validate f => some f
  | .checksum f => some f
  | .decode f => some f
  | .joystick dev p0 p1 p2 p3 p4 => encode (.joystick dev p0 p1 p2 p3 p4)
  | .button dev p0 p1 p2 p3 p4 => encode (.button dev p0 p1 p2 p3 p4)
  | .heartbeat dev p0 p1 p2 p3 p4 => encode (.heartbeat dev p0 p1 p2 p3 p4)
  | .estop dev p0 p1 p2 p3 p4 => encode (.estop dev p0 p1 p2 p3 p4)
  | .announceCapabilities dev p0 p1 p2 p3 p4 => encode (.announceCapabilities dev p0 p1 p2 p3 p4)
  | .servoZ dev p0 p1 p2 p3 p4 => encode (.servoZ dev p0 p1 p2 p3 p4)
  | .telemetry dev p0 p1 p2 p3 p4 => encode (.telemetry dev p0 p1 p2 p3 p4)
  | .other dev cmd p0 p1 p2 p3 p4 => encode (.other dev cmd p0 p1 p2 p3 p4)
  | .invalid f => encode (.invalid f)
  | .remap _ => none
  | .encodeTelemetry _ _ _ _ => none

/-! ## The voltage byte in exact rationals (43_telemetry_encoder.md R86, R87; 00_scope.md R6, R7) -/

/-- `e = f[30:23]` (R87). -/
def ieeeExponent (f : BitVec 32) : Nat := f.toNat / 2 ^ 23 % 2 ^ 8

/-- `m = f[22:0]` (R87). -/
def ieeeFraction (f : BitVec 32) : Nat := f.toNat % 2 ^ 23

/-- `s = f[31]` (R87). -/
def ieeeSign (f : BitVec 32) : Nat := f.toNat / 2 ^ 31

/-- `val(f)` of a finite pattern (the first two rows of R87's table). -/
def ieeeValue (f : BitVec 32) : ℚ :=
  if ieeeExponent f = 0 then (-1) ^ ieeeSign f * (2 : ℚ) ^ (-126 : ℤ) * ((ieeeFraction f : ℚ) / 2 ^ 23)
  else (-1) ^ ieeeSign f * (2 : ℚ) ^ ((ieeeExponent f : ℤ) - 127) * (1 + (ieeeFraction f : ℚ) / 2 ^ 23)

/-- `r = RNE32(q)` (00_scope.md R7): e with 2^e ≤ q < 2^(e+1); m the integer nearest to q * 2^(23-e), ties to the even integer;
r = m * 2^(e-23). -/
def IsRne32 (q r : ℚ) : Prop :=
  ∃ e m : ℤ, (2 : ℚ) ^ e ≤ q ∧ q < (2 : ℚ) ^ (e + 1) ∧
    (|q * (2 : ℚ) ^ (23 - e) - m| < 1 / 2 ∨ (|q * (2 : ℚ) ^ (23 - e) - m| = 1 / 2 ∧ Even m)) ∧
    r = m * (2 : ℚ) ^ (e - 23)

/-- `p = (VOLT_MUL == binary32 and q >= 2^-126) ? RNE32(q) : q` (R86). -/
def IsVoltProduct (c : Config) (q p : ℚ) : Prop :=
  if c.voltMul = .binary32 ∧ (2 : ℚ) ^ (-126 : ℤ) ≤ q then IsRne32 q p else p = q

/-- `vb = (VOLT_ROUND == trunc) ? trunc(p) : roundHalfUp(p)` (R86, R6). -/
def IsVoltConversion (c : Config) (p : ℚ) (vb : Int) : Prop :=
  match c.voltRound with
  | .trunc => vb = ⌊p⌋
  | .nearest => vb = ⌊p + 1 / 2⌋

/-- The two x-branches of R86: the byte of a clamped voltage `x`, with no wrap. -/
def IsVoltByteOf (c : Config) (x : ℚ) (b : Byte) : Prop :=
  ∃ p : ℚ, IsVoltProduct c (10 * x) p ∧ IsVoltConversion c p b.toNat

/-- `vb = voltbyte(f)` as R86 writes it, branch by branch. -/
def IsVoltByte (c : Config) (f : BitVec 32) (b : Byte) : Prop :=
  if ieeeExponent f = 255 ∧ ieeeFraction f ≠ 0 then b = c.voltNanByte
  else if ieeeExponent f = 255 ∧ ieeeSign f = 0 then IsVoltByteOf c 25 b
  else if ieeeExponent f = 255 then b = 0x00#8
  else if 25 < ieeeValue f then IsVoltByteOf c 25 b
  else if ieeeValue f ≤ 0 then b = 0x00#8
  else IsVoltByteOf c (ieeeValue f) b

end Sys2Proof.Machine
end

