-- ==== Sys2Proof/Certificates/Slice0/Obligations.lean ====
section
/-! DEFINITION. The statements for the provers. Each docstring names the rule or the sections of spec/ it formalises. -/

open Sys2Proof Sys2Proof.Machine

/-! ## Steps, decoding and encoding -/

/-- With no stimulus pending, a step runs the instruction that the decoder reads from the ten bytes on `dec_frame`
(30_encoding.md R48, R49; the model's way to run, log 1). -/
def Obligations.StepRunsTheStandingFrame : Prop :=
  ∀ (s : State) (i : Instr), s.program = [] → decodeBytes s.inp.decFrame.toList = .ok (i, []) → step s = exec i s

/-- A program's transactions are applied one by one, in order; the collaborator's other acts likewise (R52; log 1). -/
def Obligations.StepTakesTheNextStimulus : Prop :=
  ∀ (s : State) (rest : List Stimulus) (i : Instr) (x : Inputs) (t : Nat),
    step { s with program := .run i :: rest } = exec i { s with program := rest } ∧
    step { s with program := .drive x :: rest } = .next (driveInputs x { s with program := rest }) ∧
    step { s with program := .elapse t :: rest } = .next (elapse t { s with program := rest }) ∧
    step { s with program := .edge :: rest } = .next (clockEdge { s with program := rest }) ∧
    step { s with program := .edgeWhileChanging x :: rest } =
      .next (clockEdgeWhileChanging x { s with program := rest }) ∧
    step { s with program := .powerUp :: rest } = .next (powerUp { s with program := rest })

/-- Frames written out from R41 and R48 decode to what they stand for. -/
def Obligations.WrittenFramesDecode : Prop :=
  decodeTableWord 80 0x55AC0000C800640101AA = some (.joystick 0x01 0x64 0x00 0xC8 0x00 0x00) ∧
  decodeTableWord 80 0x55FF00000005FF0207AA = some (.button 0x07 0xFF 0x05 0x00 0x00 0x00) ∧
  decodeTableWord 80 0x5591000000009606_01AA = some (.servoZ 0x01 0x96 0x00 0x00 0x00 0x00) ∧
  decodeTableWord 80 0x5570_0000_2C03_4A10_05AA = some (.telemetry 0x05 0x4A 0x03 0x2C 0x00 0x00) ∧
  decodeTableWord 80 0x55EF5544332211FF01AA = some (.other 0x01 0xFF 0x11 0x22 0x33 0x44 0x55) ∧
  decodeTableWord 80 0x55AD0000C800640101AA =
    some (.invalid #v[0xAA, 0x01, 0x01, 0x64, 0x00, 0xC8, 0x00, 0x00, 0xAD, 0x55])

/-- The decoder gives back every well-formed instruction that has a frame, with every operand at every value (R41, R48). -/
def Obligations.EncodedFramesDecodeBack : Prop :=
  ∀ (i : Instr) (f : Frame), i.wellFormed = true → encode i = some f → decodeFrame f = i

/-- Every frame decodes to a well-formed instruction that encodes back to it: no bit of a frame is dropped, and every 80-bit
value has its row (R48, R49). -/
def Obligations.DecodedFramesEncodeBack : Prop :=
  ∀ f : Frame, (decodeFrame f).wellFormed = true ∧ encode (decodeFrame f) = some f

/-- Byte i of a frame is bits [8i+7:8i] of its port, both ways (20_memory.md R29). -/
def Obligations.PortBitsAreFrameBytes : Prop :=
  ∀ (w : BitVec 80) (f : Frame),
    (∀ i : Fin 10, (Frame.ofBits w).read i = w.extractLsb' (8 * i) 8) ∧
    (Frame.ofBits w).toBits = w ∧ Frame.ofBits f.toBits = f

/-- MKFRAME denotes the ten bytes of R53, and every MKFRAME frame is valid. -/
def Obligations.MadeFramesAreValid : Prop :=
  ∀ dev cmd p0 p1 p2 p3 p4 : Byte,
    mkFrame dev cmd p0 p1 p2 p3 p4 =
      #v[0xAA, dev, cmd, p0, p1, p2, p3, p4, dev ^^^ cmd ^^^ p0 ^^^ p1 ^^^ p2 ^^^ p3 ^^^ p4, 0x55] ∧
    frameValid (mkFrame dev cmd p0 p1 p2 p3 p4) = true

/-! ## Frame validator -/

/-- The two sentinel tests (R54, R55, R56). -/
def Obligations.SentinelTests : Prop :=
  ∀ f : Frame,
    (startOk f = true ↔ f.read 0 = 0xAA#8) ∧ (endOk f = true ↔ f.read 9 = 0x55#8) ∧
    (sentinelOk f = (startOk f && endOk f)) ∧
    (f.read 0 = 0x55#8 → f.read 9 = 0xAA#8 → startOk f = false ∧ endOk f = false) ∧
    ∀ a b : Byte, checksum ((f.write 0 a).write 9 b) = checksum f

/-- The XOR tree (R57): the reduction of bytes 1..7, bit by bit the parity, with bytes 0, 8 and 9 left out. Every bracketing of the
seven bytes, in any order (R6), gives the same byte, the balanced one among them. -/
def Obligations.ChecksumIsTheXorOfBytesOneToSeven : Prop :=
  ∀ f : Frame,
    checksum f = f.read 1 ^^^ f.read 2 ^^^ f.read 3 ^^^ f.read 4 ^^^ f.read 5 ^^^ f.read 6 ^^^ f.read 7 ∧
    (∀ k < 8, (checksum f).getLsbD k =
      decide (([1, 2, 3, 4, 5, 6, 7] : List (Fin 10)).countP (fun i => (f.read i).getLsbD k) % 2 = 1)) ∧
    checksum f = ((f.read 1 ^^^ f.read 2) ^^^ (f.read 3 ^^^ f.read 4)) ^^^ ((f.read 5 ^^^ f.read 6) ^^^ f.read 7) ∧
    (∀ t : Bracketing, List.Perm t.leaves [1, 2, 3, 4, 5, 6, 7] → t.eval f = checksum f) ∧
    ∀ a b c : Byte, checksum (((f.write 0 a).write 8 b).write 9 c) = checksum f

/-- The checksum test (R58), and its equivalent over bytes 1..8. -/
def Obligations.ChkOkIffXorOfBytesOneToEightIsZero : Prop :=
  ∀ f : Frame,
    (chkOk f = true ↔ f.read 8 = checksum f) ∧
    (chkOk f = true ↔
      f.read 1 ^^^ f.read 2 ^^^ f.read 3 ^^^ f.read 4 ^^^ f.read 5 ^^^ f.read 6 ^^^ f.read 7 ^^^ f.read 8 = 0x00#8)

/-- CHECKSUM (R59): `dec_chk` is the XOR of bytes 1..7 whether the frame is valid or not; nothing else of the state changes but
what the frame on `dec_frame` decides. -/
def Obligations.ChecksumResult : Prop :=
  ∀ (f : Frame) (s : State), s.Shows →
    exec (.checksum f) s = .next (s.shownFrame f (decodePacket s.cfg f)
      (.chk (f.read 1 ^^^ f.read 2 ^^^ f.read 3 ^^^ f.read 4 ^^^ f.read 5 ^^^ f.read 6 ^^^ f.read 7)))

/-- VALIDATE (R60): the reading is 1 exactly for START, END and a matching checksum, the ports `dec_valid` and the three cause bits
say the same, and nothing else of the state changes but what the frame on `dec_frame` decides. -/
def Obligations.ValidateResult : Prop :=
  ∀ (f : Frame) (s : State), s.Shows →
    ∃ v : Bool, (v = true ↔ frameWellFormed f) ∧ (decodePacket s.cfg f).valid = v ∧
      exec (.validate f) s = .next (s.shownFrame f (decodePacket s.cfg f) (.valid v))

/-- The three causes of frame invalid are reported in parallel, each on its own bit (R96, R99). -/
def Obligations.CausesAreReportedInParallel : Prop :=
  ∀ (f : Frame) (s : State), s.Shows →
    ∃ t, exec (.decode f) s = .next t ∧
      (t.out.startOk = false ↔ f.read 0 ≠ 0xAA#8) ∧ (t.out.endOk = false ↔ f.read 9 ≠ 0x55#8) ∧
      (t.out.chkOk = false ↔
        f.read 8 ≠ f.read 1 ^^^ f.read 2 ^^^ f.read 3 ^^^ f.read 4 ^^^ f.read 5 ^^^ f.read 6 ^^^ f.read 7) ∧
      (t.out.pkt.valid = false ↔ t.out.startOk = false ∨ t.out.endOk = false ∨ t.out.chkOk = false) ∧
      (t.out.pkt.valid = false → t.out.pkt = blankPacket false 0x00) ∧
      ∀ k, t.inp.decFrame.read k = f.read k

/-- What the checksum detects (R61): an odd number of differing bits in one bit position, so any single-bit change; never an even
number, and never a reordering of bytes 1..7. -/
def Obligations.WhatTheChecksumDetects : Prop :=
  ∀ f : Frame, frameValid f = true →
    (∀ (g : Frame) (k : Nat), k < 8 → diffCount f g k % 2 = 1 → frameValid g = false) ∧
    (∀ (i : Fin 10) (k : Nat), 1 ≤ i.val → i.val ≤ 8 → k < 8 →
      frameValid (f.write i (f.read i ^^^ (0x01#8 <<< k))) = false) ∧
    (∀ g : Frame, (∀ k < 8, diffCount f g k % 2 = 0) → chkOk g = true) ∧
    (∀ g : Frame, g.read 8 = f.read 8 →
      List.Perm [g.read 1, g.read 2, g.read 3, g.read 4, g.read 5, g.read 6, g.read 7]
        [f.read 1, f.read 2, f.read 3, f.read 4, f.read 5, f.read 6, f.read 7] → chkOk g = true)

/-! ## Command dispatcher -/

/-- DECODE (R63): the packet is the zero packet for an invalid frame, and otherwise the arm that byte 2 selects, as the reference
function of 41_command_dispatcher.md section 3 writes it; nothing else of the state changes but what the frame decides. -/
def Obligations.DecodeResult : Prop :=
  ∀ (f : Frame) (s : State), s.cfg.legal = true → s.Shows →
    ∃ p : Packet, exec (.decode f) s = .next (s.shownFrame f p (.packet p)) ∧
      (¬ frameWellFormed f → p = blankPacket false 0x00) ∧
      (frameWellFormed f →
        (f.read 2 = 0x01#8 → p =
          { blankPacket true 0x01 with
            leftX := remapValue (f.read 3), leftY := remapValue (f.read 4), rightX := remapValue (f.read 5)
            rightY := remapValue (f.read 6), auxBits := f.read 7 }) ∧
        (f.read 2 = 0x02#8 → p =
          { blankPacket true 0x02 with
            leftX := (f.read 3).toNat, leftY := (f.read 4).toNat, auxBits := f.read 3 }) ∧
        (f.read 2 = 0x06#8 → p = { blankPacket true 0x06 with rightZ := remapValue (f.read 3) }) ∧
        (f.read 2 ≠ 0x01#8 → f.read 2 ≠ 0x02#8 → f.read 2 ≠ 0x06#8 → p = blankPacket true (f.read 2)))

/-- INVALID (R64): whatever bytes 1..7 hold, an invalid frame gives the zero packet, as the row's own instruction and as DECODE. -/
def Obligations.InvalidResult : Prop :=
  ∀ (f : Frame) (s : State), ¬ frameWellFormed f → s.Shows →
    exec (.invalid f) s = .next (s.shownFrame f (blankPacket false 0x00) (.packet (blankPacket false 0x00))) ∧
    exec (.decode f) s = .next (s.shownFrame f (blankPacket false 0x00) (.packet (blankPacket false 0x00)))

/-- In a valid packet, a field that the arm does not populate is 0 (R65, R42). -/
def Obligations.UnpopulatedFieldsAreZero : Prop :=
  ∀ (c : Config) (f : Frame), frameValid f = true →
    let p := decodePacket c f
    (f.read 2 ≠ 0x01#8 → f.read 2 ≠ 0x02#8 → p.leftX = 0 ∧ p.leftY = 0 ∧ p.auxBits = 0x00#8) ∧
    (f.read 2 ≠ 0x01#8 → p.rightX = 0 ∧ p.rightY = 0) ∧
    (f.read 2 ≠ 0x06#8 → p.rightZ = 0)

/-- A valid frame with command byte 0x00 differs from an invalid frame on `valid` alone (R66). -/
def Obligations.CommandZeroDiffersFromInvalidOnlyInValid : Prop :=
  ∀ (c : Config) (f g : Frame), frameValid f = true → f.read 2 = 0x00#8 → frameValid g = false →
    decodePacket c f = blankPacket true 0x00 ∧ decodePacket c g = { decodePacket c f with valid := false }

/-- JOYSTICK (R67): its encoding and its whole effect. -/
def Obligations.JoystickResult : Prop :=
  ∀ (dev p0 p1 p2 p3 p4 : Byte) (s : State), s.cfg.legal = true → s.Shows →
    let f := mkFrame dev 0x01 p0 p1 p2 p3 p4
    let p : Packet :=
      { valid := true, cmd := 0x01, leftX := remapValue p0, leftY := remapValue p1, rightX := remapValue p2
        rightY := remapValue p3, rightZ := 0, auxBits := p4 }
    decodeFrame f = .joystick dev p0 p1 p2 p3 p4 ∧
    exec (.joystick dev p0 p1 p2 p3 p4) s = .next (s.shownFrame f p (.packet p))

/-- BUTTON (R68): its encoding and its whole effect; `leftX` and `auxBits` carry the same byte, zero-extended, never negative. -/
def Obligations.ButtonResult : Prop :=
  ∀ (dev p0 p1 p2 p3 p4 : Byte) (s : State), s.cfg.legal = true → s.Shows →
    let f := mkFrame dev 0x02 p0 p1 p2 p3 p4
    let p : Packet :=
      { valid := true, cmd := 0x02, leftX := p0.toNat, leftY := p1.toNat, rightX := 0, rightY := 0, rightZ := 0
        auxBits := p0 }
    decodeFrame f = .button dev p0 p1 p2 p3 p4 ∧
    exec (.button dev p0 p1 p2 p3 p4) s = .next (s.shownFrame f p (.packet p)) ∧
    p.leftX = rawOperand s.cfg p.auxBits

/-- HEARTBEAT, ESTOP, ANNOUNCE_CAPABILITIES and TELEMETRY (R69, R70, R71, R73): nothing beyond `valid` and `cmd`. -/
def Obligations.BareCommandResults : Prop :=
  ∀ (dev p0 p1 p2 p3 p4 : Byte) (s : State), s.Shows →
    (decodeFrame (mkFrame dev 0x03 p0 p1 p2 p3 p4) = .heartbeat dev p0 p1 p2 p3 p4 ∧
      exec (.heartbeat dev p0 p1 p2 p3 p4) s =
        .next (s.shownFrame (mkFrame dev 0x03 p0 p1 p2 p3 p4) (blankPacket true 0x03) (.packet (blankPacket true 0x03)))) ∧
    (decodeFrame (mkFrame dev 0x04 p0 p1 p2 p3 p4) = .estop dev p0 p1 p2 p3 p4 ∧
      exec (.estop dev p0 p1 p2 p3 p4) s =
        .next (s.shownFrame (mkFrame dev 0x04 p0 p1 p2 p3 p4) (blankPacket true 0x04) (.packet (blankPacket true 0x04)))) ∧
    (decodeFrame (mkFrame dev 0x05 p0 p1 p2 p3 p4) = .announceCapabilities dev p0 p1 p2 p3 p4 ∧
      exec (.announceCapabilities dev p0 p1 p2 p3 p4) s =
        .next (s.shownFrame (mkFrame dev 0x05 p0 p1 p2 p3 p4) (blankPacket true 0x05) (.packet (blankPacket true 0x05)))) ∧
    (decodeFrame (mkFrame dev 0x10 p0 p1 p2 p3 p4) = .telemetry dev p0 p1 p2 p3 p4 ∧
      exec (.telemetry dev p0 p1 p2 p3 p4) s =
        .next (s.shownFrame (mkFrame dev 0x10 p0 p1 p2 p3 p4) (blankPacket true 0x10) (.packet (blankPacket true 0x10))))

/-- SERVO_Z (R72): its encoding and its whole effect. -/
def Obligations.ServoZResult : Prop :=
  ∀ (dev p0 p1 p2 p3 p4 : Byte) (s : State), s.cfg.legal = true → s.Shows →
    let f := mkFrame dev 0x06 p0 p1 p2 p3 p4
    let p : Packet :=
      { valid := true, cmd := 0x06, leftX := 0, leftY := 0, rightX := 0, rightY := 0, rightZ := remapValue p0
        auxBits := 0x00 }
    decodeFrame f = .servoZ dev p0 p1 p2 p3 p4 ∧
    exec (.servoZ dev p0 p1 p2 p3 p4) s = .next (s.shownFrame f p (.packet p))

/-- OTHER (R74): its encoding and its whole effect, for every code outside the enumeration. -/
def Obligations.OtherResult : Prop :=
  ∀ (dev cmd p0 p1 p2 p3 p4 : Byte) (s : State),
    cmd ∉ [0x01#8, 0x02#8, 0x03#8, 0x04#8, 0x05#8, 0x06#8, 0x10#8] → s.Shows →
      decodeFrame (mkFrame dev cmd p0 p1 p2 p3 p4) = .other dev cmd p0 p1 p2 p3 p4 ∧
      exec (.other dev cmd p0 p1 p2 p3 p4) s =
        .next (s.shownFrame (mkFrame dev cmd p0 p1 p2 p3 p4) (blankPacket true cmd) (.packet (blankPacket true cmd)))

/-- Each frame command is what DECODE does with its frame: for every frame, the decoder's instruction and DECODE of the frame
have the same outcome in every state (R63, R48). -/
def Obligations.ArmsAreWhatDecodeDoes : Prop :=
  ∀ (f : Frame) (s : State), exec (decodeFrame f) s = exec (.decode f) s

/-- The netlist of the five sub-blocks, with its multiplexers and balanced XOR trees, gives the outputs that the rules of the
operations give, for every configuration and every input (R17, R18, R75). -/
def Obligations.NetlistMeetsTheRules : Prop := ∀ (c : Config) (x : Inputs), netTop c x = outputsOf c x

/-- The values that the ControlPacket fields take, per arm (R20). -/
def Obligations.PacketValueRanges : Prop :=
  ∀ (c : Config) (f : Frame), c.legal = true →
    let p := decodePacket c f
    (p.valid = false → p = blankPacket false 0x00) ∧
    (p.cmd = 0x01#8 → -100 ≤ p.leftX ∧ p.leftX ≤ 100 ∧ -100 ≤ p.leftY ∧ p.leftY ≤ 100) ∧
    (p.cmd = 0x02#8 → 0 ≤ p.leftX ∧ p.leftX ≤ 255 ∧ 0 ≤ p.leftY ∧ p.leftY ≤ 255) ∧
    -100 ≤ p.rightX ∧ p.rightX ≤ 100 ∧ -100 ≤ p.rightY ∧ p.rightY ≤ 100 ∧ -100 ≤ p.rightZ ∧ p.rightZ ≤ 100

/-! ## Axis remapper and operand forms -/

/-- REMAP: `val` is `min(raw, 200) − 100` for every legal width, and its two's-complement port holds that value (R77). That one
stand-alone remapper alone changes, with no clock edge and every top-level port as it was, is the model's choice (log 7). -/
def Obligations.RemapResult : Prop :=
  ∀ (raw : Byte) (s : State), s.cfg.legal = true →
    let v : Int := min (raw.toNat : Int) 200 - 100
    exec (.remap raw) s =
      .next { s with
        remapRaw := raw
        remapVal := v
        results := s.results ++ [.val v] } ∧
    (axisBits s.cfg v).toInt = v

/-- Both rounding choices of the source's formula give the remap (R78). -/
def Obligations.RemapNeedsNoRounding : Prop :=
  ∀ (c : Config) (raw : Byte), c.legal = true →
    remappedOperand c raw = -100 + Int.tdiv (min (raw.toNat : Int) 200 * 200) 200 ∧
    remappedOperand c raw = -100 + Int.fdiv (min (raw.toNat : Int) 200 * 200) 200

/-- The properties of the remap (R79). -/
def Obligations.RemapProperties : Prop :=
  ∀ c : Config, c.legal = true →
    (∀ raw, -100 ≤ remappedOperand c raw ∧ remappedOperand c raw ≤ 100) ∧
    (∀ v : Int, -100 ≤ v → v ≤ 100 → ∃ raw : Byte, (raw.toNat : Int) = v + 100 ∧ remappedOperand c raw = v) ∧
    (∀ a b : Byte, a.toNat ≤ b.toNat → remappedOperand c a ≤ remappedOperand c b) ∧
    (∀ a b : Byte, a.toNat ≤ 200 → b.toNat ≤ 200 → remappedOperand c a = remappedOperand c b → a = b) ∧
    (∀ a : Byte, 200 ≤ a.toNat → remappedOperand c a = 100) ∧
    (∀ a : Byte, remappedOperand c a + 100 = min (a.toNat : Int) 200)

/-- The linear and the LUT form drive the same bits at every width, and the bits that R80 writes out. -/
def Obligations.RemapFormsAgree : Prop :=
  (∀ (w : Nat) (raw : Byte), remapLinear w raw = remapLut w raw) ∧
  (∀ raw : Byte, remapTable.getD raw.toNat 0 = min (raw.toNat : Int) 200 - 100) ∧
  remapLut 16 0 = 0xFF9C#16 ∧ remapLut 9 0 = 0x19C#9 ∧ remapLut 16 100 = 0x0000#16 ∧
  ∀ raw : Byte, 200 ≤ raw.toNat → remapLut 16 raw = 0x0064#16

/-- `REMAP_IMPL` has no observable effect: with the other form every instruction does the same (R5, R80). -/
def Obligations.RemapFormIsNotObservable : Prop :=
  ∀ (i : Instr) (s : State) (r : RemapImpl),
    ∃ t, exec i s = .next t ∧
      exec i { s with cfg := { s.cfg with remapImpl := r } } = .next { t with cfg := { t.cfg with remapImpl := r } }

/-- The operand forms at every legal width: raw holds 0..255 and is never negative, remapped holds -100..100, aux and cmd are the
byte; and each value is recovered from its port's bits (R44, R45, R46, R47). -/
def Obligations.OperandForms : Prop :=
  ∀ (c : Config) (b : Byte), c.legal = true →
    rawOperand c b = b.toNat ∧ remappedOperand c b = min (b.toNat : Int) 200 - 100 ∧ auxOperand b = b ∧ cmdOperand b = b ∧
    axisBits c (rawOperand c b) = b.setWidth c.axisW ∧ (axisBits c (rawOperand c b)).toInt = b.toNat ∧
    (axisBits c (remappedOperand c b)).toInt = min (b.toNat : Int) 200 - 100

/-! ## Telemetry encoder -/

/-- The bytes of a telemetry frame other than the voltage byte (R82, R88, R89, R90, R91, R92). -/
def Obligations.TelemetryFrameBytes : Prop :=
  ∀ (c : Config) (dev : Byte) (voltage : BitVec 32) (flags : Byte) (cnt : BitVec 32),
    let f := telemetryFrame c dev voltage flags cnt
    f.read 0 = 0xAA#8 ∧ f.read 1 = dev ∧ f.read 2 = 0x10#8 ∧ f.read 4 = flags ∧
    (f.read 5).toNat = cnt.toNat % 256 ∧ f.read 6 = 0x00#8 ∧ f.read 7 = 0x00#8 ∧
    f.read 8 = f.read 1 ^^^ f.read 2 ^^^ f.read 3 ^^^ f.read 4 ^^^ f.read 5 ^^^ f.read 6 ^^^ f.read 7 ∧
    f.read 8 = dev ^^^ 0x10#8 ^^^ f.read 3 ^^^ flags ^^^ cnt.extractLsb' 0 8 ∧ f.read 9 = 0x55#8

/-- ENCODE_TELEMETRY (R81, R94): the whole effect. `tel_frame` is the frame of the four values, the decode path shows the frame
that stands on `dec_frame`, and nothing else changes. -/
def Obligations.EncodeTelemetryResult : Prop :=
  ∀ (dev : Byte) (voltage : BitVec 32) (flags : Byte) (cnt : BitVec 32) (s : State), s.Shows →
    let vb := voltByte s.cfg voltage
    let f : Frame := #v[0xAA, dev, 0x10, vb, flags, cnt.setWidth 8, 0x00, 0x00,
      dev ^^^ 0x10#8 ^^^ vb ^^^ flags ^^^ cnt.setWidth 8, 0x55]
    exec (.encodeTelemetry dev voltage flags cnt) s =
      .next { s with
        inp := { s.inp with telDeviceId := dev, telVoltage := voltage, telStatusFlags := flags, telPacketsReceived := cnt }
        out := { outputsOf s.cfg s.inp with telFrame := f }
        settling := .settled
        results := s.results ++ [.frame f] }

/-- A voltage above 25.0, up to +infinity, gives 250 in every configuration (R83). -/
def Obligations.VoltageAboveMaxSaturates : Prop :=
  ∀ (c : Config) (dev : Byte) (v : BitVec 32) (flags : Byte) (cnt : BitVec 32),
    0x41C80000 < v.toNat → v.toNat ≤ 0x7F800000 →
      telemetryFrame c dev v flags cnt = telemetryFrame c dev 0x41C80000#32 flags cnt ∧
      (telemetryFrame c dev v flags cnt).read 3 = 250#8

/-- A voltage at or below zero (+0, -0, negative, -infinity) gives 0x00 in every configuration (R84). The value is the spec's own
decision D11, where the source is silent and a real encoder may wrap (U5); the model follows the decision (log 15). -/
def Obligations.VoltageAtOrBelowZeroGivesZero : Prop :=
  ∀ (c : Config) (dev : Byte) (v : BitVec 32) (flags : Byte) (cnt : BitVec 32),
    (v.toNat = 0 ∨ (0x80000000 ≤ v.toNat ∧ v.toNat ≤ 0xFF800000)) →
      (telemetryFrame c dev v flags cnt).read 3 = 0x00#8

/-- A NaN of either sign and any payload gives `VOLT_NAN_BYTE`, which is 0x00 by default (R85). -/
def Obligations.NanVoltageGivesTheNanByte : Prop :=
  Config.byDefault.voltNanByte = 0x00#8 ∧
  ∀ (c : Config) (dev : Byte) (v : BitVec 32) (flags : Byte) (cnt : BitVec 32),
    ((0x7F800000 < v.toNat ∧ v.toNat < 0x80000000) ∨ 0xFF800000 < v.toNat) →
      (telemetryFrame c dev v flags cnt).read 3 = c.voltNanByte

/-- Byte 3 of `tel_frame` is what R86 writes in exact rationals, for every configuration and every one of the 2^32 patterns, and
outside NaN it is at most 250, so it never wraps (R86, R87, R7, R6). -/
def Obligations.VoltageByteMeetsTheRationalRule : Prop :=
  ∀ (c : Config) (dev : Byte) (v : BitVec 32) (flags : Byte) (cnt : BitVec 32),
    let b := (telemetryFrame c dev v flags cnt).read 3
    IsVoltByte c v b ∧ (¬ (ieeeExponent v = 255 ∧ ieeeFraction v ≠ 0) → b.toNat ≤ 250)

/-- On the patterns from +0 to +infinity the voltage byte never decreases (from R86: the clamp, RNE32 and the two conversions are
monotone). -/
def Obligations.VoltageByteIsMonotone : Prop :=
  ∀ (c : Config) (f g : BitVec 32), f.toNat ≤ g.toNat → g.toNat ≤ 0x7F800000 →
    (voltByte c f).toNat ≤ (voltByte c g).toNat

/-- Every frame that ENCODE_TELEMETRY writes is well-formed, and DECODE of it gives `valid = 1`, `cmd = 0x10` and zeros, for every
input, NaN included, and every configuration (R93). -/
def Obligations.TelemetryRoundTrip : Prop :=
  ∀ (dev : Byte) (voltage : BitVec 32) (flags : Byte) (cnt : BitVec 32) (s : State), s.Shows →
    ∃ t u, exec (.encodeTelemetry dev voltage flags cnt) s = .next t ∧ frameWellFormed t.out.telFrame ∧
      exec (.decode t.out.telFrame) t = .next u ∧ u.out.pkt = blankPacket true 0x10

/-! ## Totality, independence, frames -/

/-- No instruction and no step stops: each gives an output for every input value (R95). -/
def Obligations.NothingEverStops : Prop :=
  (∀ (i : Instr) (s : State), ∃ t, exec i s = .next t) ∧ ∀ s : State, ∃ t, step s = .next t

/-- The result of an evaluation does not depend on any earlier evaluation: equal parameters and inputs give equal outputs and an
equal reading, whatever else the states hold (R12, R35, 00_scope.md R4; a transaction waits or takes one clean edge: log 8). -/
def Obligations.ResultsDoNotDependOnHistory : Prop :=
  ∀ (i : Instr) (s1 s2 : State), s1.cfg = s2.cfg → s1.inp = s2.inp → s1.Shows → s2.Shows →
    ∃ t1 t2 r, exec i s1 = .next t1 ∧ exec i s2 = .next t2 ∧ t1.inp = t2.inp ∧
      t1.results = s1.results ++ [r] ∧ t2.results = s2.results ++ [r] ∧
      ((∀ raw, i ≠ .remap raw) → t1.out = t2.out ∧ t1.out = outputsOf t1.cfg t1.inp)

/-- The decode path and the encode path share no input and no output (R16): no instruction lets the encode path's values reach the
decode path's, nor the other way, in any state. -/
def Obligations.PathsAreIndependent : Prop :=
  (∀ (i : Instr) (s1 s2 t1 t2 : State), s1.SameDecodePath s2 → exec i s1 = .next t1 → exec i s2 = .next t2 →
    t1.SameDecodePath t2) ∧
  (∀ (i : Instr) (s1 s2 t1 t2 : State), s1.SameEncodePath s2 → exec i s1 = .next t1 → exec i s2 = .next t2 →
    t1.SameEncodePath t2) ∧
  (∀ (d1 d2 : Byte) (v1 v2 : BitVec 32) (f1 f2 : Byte) (n1 n2 : BitVec 32) (s1 s2 t1 t2 : State), s1.SameDecodePath s2 →
    exec (.encodeTelemetry d1 v1 f1 n1) s1 = .next t1 → exec (.encodeTelemetry d2 v2 f2 n2) s2 = .next t2 →
    t1.SameDecodePath t2) ∧
  (∀ (i1 i2 : Instr) (f1 f2 : Frame) (s1 s2 t1 t2 : State), drivenFrame i1 = some f1 → drivenFrame i2 = some f2 →
    s1.SameEncodePath s2 → exec i1 s1 = .next t1 → exec i2 s2 = .next t2 → t1.SameEncodePath t2)

/-- The frame of the instructions that drive `dec_frame`, all but REMAP and ENCODE_TELEMETRY (R25, R16): they complete in every
state, the ten bytes on `dec_frame` are those of the frame driven, and every other input, the remapper, the parameters and the
pending program stand. In a settled state of the default form every byte of `tel_frame` reads as before. -/
def Obligations.FrameInstructionsKeepTheRest : Prop :=
  ∀ (i : Instr) (f : Frame) (s : State), drivenFrame i = some f →
    ∃ t, exec i s = .next t ∧ t.cfg = s.cfg ∧ t.inp = { s.inp with decFrame := f } ∧ t.remapRaw = s.remapRaw ∧
      t.remapVal = s.remapVal ∧ t.program = s.program ∧ (∃ r, t.results = s.results ++ [r]) ∧
      (s.Inv → s.Follows → ∀ k, t.out.telFrame.read k = s.out.telFrame.read k)

/-- The frame of ENCODE_TELEMETRY (R94, R25, R16): it completes in every state, every byte of the decode frame reads as before,
and the remapper, `rst`, the parameters and the pending program stand. In a settled state of the default form every output of the
decode path stands as well. -/
def Obligations.EncodeTelemetryKeepsTheRest : Prop :=
  ∀ (dev : Byte) (voltage : BitVec 32) (flags : Byte) (cnt : BitVec 32) (s : State),
    ∃ t, exec (.encodeTelemetry dev voltage flags cnt) s = .next t ∧ t.cfg = s.cfg ∧ t.inp.rst = s.inp.rst ∧
      (∀ k, t.inp.decFrame.read k = s.inp.decFrame.read k) ∧ t.remapRaw = s.remapRaw ∧ t.remapVal = s.remapVal ∧
      t.program = s.program ∧ (∃ r, t.results = s.results ++ [r]) ∧
      (s.Inv → s.Follows → { t.out with telFrame := s.out.telFrame } = s.out)

/-! ## Output register, reset, hazards -/

/-- A clean rising edge with `OUTPUT_REG` = 1 (R22, R23, R111): the reset values at `rst` = 1, the function of the inputs sampled
there at `rst` = 0, any value before the first reset edge (the model's reading of R111 against R22: log 12; how the any value is
drawn: log 11). -/
def Obligations.ClockEdgeLoadsTheRegisters : Prop :=
  ∀ s : State, s.cfg.outputReg = true →
    (s.inp.rst = true → clockEdge s =
      { s with
        out :=
          { pkt := blankPacket false 0x00, startOk := false, endOk := false, chkOk := false, chk := 0x00
            telFrame := #v[0x00, 0x00, 0x00, 0x00, 0x00, 0x00, 0x00, 0x00, 0x00, 0x00] }
        wasReset := true }) ∧
    (s.inp.rst = false → s.wasReset = true → clockEdge s = { s with out := outputsOf s.cfg s.inp }) ∧
    (s.inp.rst = false → s.wasReset = false →
      clockEdge s = { s with out := freeOutputs s.cfg s.draws, draws := s.draws + 1 })

/-- At a reset edge the sampled inputs are discarded, whichever transaction drives a top-level port (R111, R23): every one but REMAP,
which takes no edge (log 7; RemapResult). That a transaction takes one clean edge is the model's choice (log 8). -/
def Obligations.ResetEdgeOverridesTopLevelTransactions : Prop :=
  ∀ (i : Instr) (s : State), s.InReset → (∀ raw, i ≠ .remap raw) →
    ∃ t, exec i s = .next t ∧ t.wasReset = true ∧ t.out =
      { pkt := blankPacket false 0x00, startOk := false, endOk := false, chkOk := false, chk := 0x00
        telFrame := #v[0x00, 0x00, 0x00, 0x00, 0x00, 0x00, 0x00, 0x00, 0x00, 0x00] }

/-- Apart from the reset value, the registered outputs are those of the combinational block for the same inputs (R22). -/
def Obligations.RegisteredOutputsAreTheCombinationalOnes : Prop :=
  ∀ (i : Instr) (s : State), s.inp.rst = false → s.wasReset = true →
    ∃ t u, exec i { s with cfg := { s.cfg with outputReg := false } } = .next t ∧
      exec i { s with cfg := { s.cfg with outputReg := true } } = .next u ∧ t.out = u.out ∧ t.results = u.results

/-- With `OUTPUT_REG` = 0 there is no clock and no reset input: an edge does nothing, and `rst` is not read (R15, R24). -/
def Obligations.NoClockAndNoResetWithoutTheRegister : Prop :=
  ∀ (s : State) (i : Instr) (b : Bool), s.cfg.outputReg = false →
    clockEdge s = s ∧
    ∃ t, exec i s = .next t ∧
      exec i { s with inp := { s.inp with rst := b } } = .next { t with inp := { t.inp with rst := b } }

/-- With `OUTPUT_REG` = 0, inputs just driven leave any value on the outputs until they have been stable for `T_PD`, and then the
outputs are their function (R114; counting stability from the last drive and drawing the values is the model's: log 9, log 11). -/
def Obligations.OutputsFollowAfterTheSettlingDelay : Prop :=
  ∀ (s : State) (x : Inputs) (t : Nat), s.cfg.outputReg = false →
    let d := driveInputs x s
    d.inp = x ∧ d.out = freeOutputs s.cfg s.draws ∧ (elapse t d).inp = x ∧
    (Config.tPd ≤ t → (elapse t d).out = outputsOf s.cfg x ∧ (elapse t d).settling = .settled) ∧
    (t < Config.tPd → (elapse t d).out = freeOutputs s.cfg (s.draws + 1))

/-- An edge while the inputs change to `x` (R115, U11, R23, R111). With `rst` held at 1 the registers take the reset values, whatever is
sampled. With `rst` held at 0 after a reset they take any value: a draw over every output value, or the function of a sample whose
frame is a draw. Before a reset edge they take any value. A changing `rst` is sampled either way. Without the register there is no
clock. How the values are drawn, and that `rst` is held where it ends as it began, is the model's choice (log 11). -/
def Obligations.ChangingInputsLoadAnyValueUnlessInReset : Prop :=
  ∀ (s : State) (x : Inputs),
    let t := clockEdgeWhileChanging x s
    let r : Outputs :=
      { pkt := blankPacket false 0x00, startOk := false, endOk := false, chkOk := false, chk := 0x00
        telFrame := #v[0x00, 0x00, 0x00, 0x00, 0x00, 0x00, 0x00, 0x00, 0x00, 0x00] }
    (s.cfg.outputReg = false → t = driveInputs x s) ∧
    (s.cfg.outputReg = true →
      t = { s with inp := x, settling := .settling 0, out := t.out, wasReset := t.wasReset, draws := t.draws } ∧
      s.draws < t.draws ∧
      (s.inp.rst = true → x.rst = true → t.out = r ∧ t.wasReset = true) ∧
      (s.inp.rst = false → x.rst = false → t.wasReset = s.wasReset ∧
        (s.wasReset = true → AnyOutputs s.cfg s.draws t.out) ∧
        (s.wasReset = false → t.out = freeOutputs s.cfg (s.draws + 1))) ∧
      (s.inp.rst ≠ x.rst → (t.out = r ∧ t.wasReset = true) ∨
        (t.wasReset = s.wasReset ∧ (AnyOutputs s.cfg s.draws t.out ∨ t.out = freeOutputs s.cfg (s.draws + 1)))))

/-- After power-up the outputs hold any value, and with `OUTPUT_REG` = 1 so they do after every edge until a reset edge; one reset
edge is enough for the next edge to load the function (R111, R23; the model's reading: log 12, log 21). -/
def Obligations.OneResetEdgeAfterPowerUp : Prop :=
  ∀ (s : State) (x : Inputs), s.cfg.outputReg = true →
    (powerUp s).out = freeOutputs s.cfg s.draws ∧
    ((powerUp s).inp.rst = false → (clockEdge (powerUp s)).out = freeOutputs s.cfg (s.draws + 1)) ∧
    ((powerUp s).inp.rst = true → x.rst = false →
      (clockEdge (driveInputs x (clockEdge (powerUp s)))).out = outputsOf s.cfg x)

/-- Parameters are synthesis-time constants: no step changes one (R11; the parameters stand in State: log 2). -/
def Obligations.ParametersNeverChange : Prop := ∀ s t : State, step s = .next t → t.cfg = s.cfg

/-- From every state that meets the invariant, a step gives a state that meets it (R13, R20, R22, R23, R24, R111, R114, R115;
the stand-alone remapper and the settling count are the model's: log 7, log 9). -/
def Obligations.StepKeepsTheInvariant : Prop := ∀ s t : State, s.Inv → step s = .next t → t.Inv

/-- The machine right after reset meets the invariant (log 3, log 4, log 7). -/
def Obligations.ResetMeetsTheInvariant : Prop := State.reset.Inv

/-- Between edges the output registers keep their values (R22, R116): new inputs and time change nothing but the input ports and how
long they have been stable. -/
def Obligations.RegistersHoldBetweenEdges : Prop :=
  ∀ (s : State) (x : Inputs) (n : Nat), s.cfg.outputReg = true →
    driveInputs x s = { s with inp := x, settling := .settling 0 } ∧
    elapse n s = { s with settling := settleBy n s.settling } ∧
    (driveInputs x s).out = s.out ∧ (elapse n s).out = s.out

/-- While every edge is clean (R115), the output registers, once reset, hold the reset values or the function of some inputs (R22, R23,
R111): every step but an edge inside whose window the inputs change keeps that. -/
def Obligations.CleanStepsKeepTheRegistersSound : Prop :=
  ∀ s t : State, (∀ x rest, s.program ≠ .edgeWhileChanging x :: rest) → s.RegistersSound → step s = .next t → t.RegistersSound
end

