-- ==== Sys2Proof/Laws/Frames.lean ====
section
/-! SUPPORT. Frames: reading after writing, the bytes of a made frame, and the canonical form of a frame buffer's memory. -/

namespace Sys2Proof

/-- A frame is its ten bytes. -/
theorem Frame.eq_of_reads {f g : Frame} (h : ∀ i : Fin 10, f.read i = g.read i) : f = g :=
  Vector.ext fun i hi => h ⟨i, hi⟩

/-- Reading the byte just written. -/
@[simp] theorem Frame.read_write_same (f : Frame) (i : Fin 10) (v : Byte) : (f.write i v).read i = v := by
  simp [Frame.read, Frame.write]

/-- A write leaves every other byte alone. -/
theorem Frame.read_write_of_ne (f : Frame) {i j : Fin 10} (v : Byte) (h : i ≠ j) : (f.write i v).read j = f.read j := by
  have : (i : Nat) ≠ j := fun e => h (Fin.ext e)
  simp [Frame.read, Frame.write, Vector.getElem_set_ne, this]

section MadeFrame
variable (dev cmd p0 p1 p2 p3 p4 : Byte)

@[simp] theorem mkFrame_read_start : (mkFrame dev cmd p0 p1 p2 p3 p4).read 0 = startByte := rfl
@[simp] theorem mkFrame_read_dev : (mkFrame dev cmd p0 p1 p2 p3 p4).read 1 = dev := rfl
@[simp] theorem mkFrame_read_cmd : (mkFrame dev cmd p0 p1 p2 p3 p4).read 2 = cmd := rfl
@[simp] theorem mkFrame_read_p0 : (mkFrame dev cmd p0 p1 p2 p3 p4).read 3 = p0 := rfl
@[simp] theorem mkFrame_read_p1 : (mkFrame dev cmd p0 p1 p2 p3 p4).read 4 = p1 := rfl
@[simp] theorem mkFrame_read_p2 : (mkFrame dev cmd p0 p1 p2 p3 p4).read 5 = p2 := rfl
@[simp] theorem mkFrame_read_p3 : (mkFrame dev cmd p0 p1 p2 p3 p4).read 6 = p3 := rfl
@[simp] theorem mkFrame_read_p4 : (mkFrame dev cmd p0 p1 p2 p3 p4).read 7 = p4 := rfl
@[simp] theorem mkFrame_read_chk :
    (mkFrame dev cmd p0 p1 p2 p3 p4).read 8 = xorTree dev cmd p0 p1 p2 p3 p4 := rfl
@[simp] theorem mkFrame_read_end : (mkFrame dev cmd p0 p1 p2 p3 p4).read 9 = endByte := rfl

/-- The XOR tree of a made frame is over the bytes it was made of. -/
@[simp] theorem checksum_mkFrame :
    checksum (mkFrame dev cmd p0 p1 p2 p3 p4) = xorTree dev cmd p0 p1 p2 p3 p4 := rfl

end MadeFrame

/-- The three tests that make up VALIDATE (R60). -/
theorem frameValid_iff (f : Frame) :
    frameValid f = true ↔ f.read 0 = startByte ∧ f.read 9 = endByte ∧ f.read 8 = checksum f := by
  simp [frameValid, sentinelOk, startOk, endOk, chkOk, and_assoc]

/-- The memory of a frame buffer is in its canonical form. -/
theorem Frame.cells_wf (f : Frame) : Memory.wf f.cells = true := rfl

/-- A write keeps the canonical form. -/
theorem Frame.cells_write_wf (f : Frame) (i : Fin 10) (v : Byte) : Memory.wf (f.write i v).cells = true :=
  Frame.cells_wf _

/-- Equal memories are equal frames. -/
theorem Frame.cells_inj {f g : Frame} (h : f.cells = g.cells) : f = g := by
  refine Frame.eq_of_reads fun i => ?_
  simp only [Frame.cells, List.cons.injEq, Prod.mk.injEq, true_and, and_true] at h
  obtain ⟨h0, h1, h2, h3, h4, h5, h6, h7, h8, h9⟩ := h
  fin_cases i <;> assumption

end Sys2Proof
end

