-- ==== Sys2Proof/Laws/State.lean ====
section
/-! SUPPORT. The small lemmas of the state's updates: one per field per update. -/

namespace Sys2Proof.Machine

/-! ### driveFrame -/

@[simp] theorem driveFrame_cfg (f : Frame) (s : State) :
    (driveFrame f s).cfg = s.cfg := rfl

@[simp] theorem driveFrame_inp (f : Frame) (s : State) :
    (driveFrame f s).inp = { s.inp with decFrame := f } := rfl

@[simp] theorem driveFrame_out (f : Frame) (s : State) :
    (driveFrame f s).out = s.out := rfl

@[simp] theorem driveFrame_remapRaw (f : Frame) (s : State) :
    (driveFrame f s).remapRaw = s.remapRaw := rfl

@[simp] theorem driveFrame_remapVal (f : Frame) (s : State) :
    (driveFrame f s).remapVal = s.remapVal := rfl

@[simp] theorem driveFrame_settling (f : Frame) (s : State) :
    (driveFrame f s).settling = .settling 0 := rfl

@[simp] theorem driveFrame_wasReset (f : Frame) (s : State) :
    (driveFrame f s).wasReset = s.wasReset := rfl

@[simp] theorem driveFrame_draws (f : Frame) (s : State) :
    (driveFrame f s).draws = s.draws := rfl

@[simp] theorem driveFrame_program (f : Frame) (s : State) :
    (driveFrame f s).program = s.program := rfl

@[simp] theorem driveFrame_results (f : Frame) (s : State) :
    (driveFrame f s).results = s.results := rfl

/-! ### driveTelemetry -/

@[simp] theorem driveTelemetry_cfg (dev : Byte) (v : BitVec 32) (flags : Byte) (cnt : BitVec 32) (s : State) :
    (driveTelemetry dev v flags cnt s).cfg = s.cfg := rfl

@[simp] theorem driveTelemetry_inp (dev : Byte) (v : BitVec 32) (flags : Byte) (cnt : BitVec 32) (s : State) :
    (driveTelemetry dev v flags cnt s).inp = { s.inp with telDeviceId := dev, telVoltage := v, telStatusFlags := flags, telPacketsReceived := cnt } := rfl

@[simp] theorem driveTelemetry_out (dev : Byte) (v : BitVec 32) (flags : Byte) (cnt : BitVec 32) (s : State) :
    (driveTelemetry dev v flags cnt s).out = s.out := rfl

@[simp] theorem driveTelemetry_remapRaw (dev : Byte) (v : BitVec 32) (flags : Byte) (cnt : BitVec 32) (s : State) :
    (driveTelemetry dev v flags cnt s).remapRaw = s.remapRaw := rfl

@[simp] theorem driveTelemetry_remapVal (dev : Byte) (v : BitVec 32) (flags : Byte) (cnt : BitVec 32) (s : State) :
    (driveTelemetry dev v flags cnt s).remapVal = s.remapVal := rfl

@[simp] theorem driveTelemetry_settling (dev : Byte) (v : BitVec 32) (flags : Byte) (cnt : BitVec 32) (s : State) :
    (driveTelemetry dev v flags cnt s).settling = .settling 0 := rfl

@[simp] theorem driveTelemetry_wasReset (dev : Byte) (v : BitVec 32) (flags : Byte) (cnt : BitVec 32) (s : State) :
    (driveTelemetry dev v flags cnt s).wasReset = s.wasReset := rfl

@[simp] theorem driveTelemetry_draws (dev : Byte) (v : BitVec 32) (flags : Byte) (cnt : BitVec 32) (s : State) :
    (driveTelemetry dev v flags cnt s).draws = s.draws := rfl

@[simp] theorem driveTelemetry_program (dev : Byte) (v : BitVec 32) (flags : Byte) (cnt : BitVec 32) (s : State) :
    (driveTelemetry dev v flags cnt s).program = s.program := rfl

@[simp] theorem driveTelemetry_results (dev : Byte) (v : BitVec 32) (flags : Byte) (cnt : BitVec 32) (s : State) :
    (driveTelemetry dev v flags cnt s).results = s.results := rfl

/-! ### driveRemapper -/

@[simp] theorem driveRemapper_cfg (raw : Byte) (s : State) :
    (driveRemapper raw s).cfg = s.cfg := rfl

@[simp] theorem driveRemapper_inp (raw : Byte) (s : State) :
    (driveRemapper raw s).inp = s.inp := rfl

@[simp] theorem driveRemapper_out (raw : Byte) (s : State) :
    (driveRemapper raw s).out = s.out := rfl

@[simp] theorem driveRemapper_remapRaw (raw : Byte) (s : State) :
    (driveRemapper raw s).remapRaw = raw := rfl

@[simp] theorem driveRemapper_remapVal (raw : Byte) (s : State) :
    (driveRemapper raw s).remapVal = remappedOperand s.cfg raw := rfl

@[simp] theorem driveRemapper_settling (raw : Byte) (s : State) :
    (driveRemapper raw s).settling = s.settling := rfl

@[simp] theorem driveRemapper_wasReset (raw : Byte) (s : State) :
    (driveRemapper raw s).wasReset = s.wasReset := rfl

@[simp] theorem driveRemapper_draws (raw : Byte) (s : State) :
    (driveRemapper raw s).draws = s.draws := rfl

@[simp] theorem driveRemapper_program (raw : Byte) (s : State) :
    (driveRemapper raw s).program = s.program := rfl

@[simp] theorem driveRemapper_results (raw : Byte) (s : State) :
    (driveRemapper raw s).results = s.results := rfl

/-! ### record -/

@[simp] theorem record_cfg (r : Reading) (s : State) :
    (record r s).cfg = s.cfg := rfl

@[simp] theorem record_inp (r : Reading) (s : State) :
    (record r s).inp = s.inp := rfl

@[simp] theorem record_out (r : Reading) (s : State) :
    (record r s).out = s.out := rfl

@[simp] theorem record_remapRaw (r : Reading) (s : State) :
    (record r s).remapRaw = s.remapRaw := rfl

@[simp] theorem record_remapVal (r : Reading) (s : State) :
    (record r s).remapVal = s.remapVal := rfl

@[simp] theorem record_settling (r : Reading) (s : State) :
    (record r s).settling = s.settling := rfl

@[simp] theorem record_wasReset (r : Reading) (s : State) :
    (record r s).wasReset = s.wasReset := rfl

@[simp] theorem record_draws (r : Reading) (s : State) :
    (record r s).draws = s.draws := rfl

@[simp] theorem record_program (r : Reading) (s : State) :
    (record r s).program = s.program := rfl

@[simp] theorem record_results (r : Reading) (s : State) :
    (record r s).results = s.results ++ [r] := rfl

/-! ### drawOutputs -/

@[simp] theorem drawOutputs_cfg (s : State) :
    (drawOutputs s).cfg = s.cfg := rfl

@[simp] theorem drawOutputs_inp (s : State) :
    (drawOutputs s).inp = s.inp := rfl

@[simp] theorem drawOutputs_out (s : State) :
    (drawOutputs s).out = freeOutputs s.cfg s.draws := rfl

@[simp] theorem drawOutputs_remapRaw (s : State) :
    (drawOutputs s).remapRaw = s.remapRaw := rfl

@[simp] theorem drawOutputs_remapVal (s : State) :
    (drawOutputs s).remapVal = s.remapVal := rfl

@[simp] theorem drawOutputs_settling (s : State) :
    (drawOutputs s).settling = s.settling := rfl

@[simp] theorem drawOutputs_wasReset (s : State) :
    (drawOutputs s).wasReset = s.wasReset := rfl

@[simp] theorem drawOutputs_draws (s : State) :
    (drawOutputs s).draws = s.draws + 1 := rfl

@[simp] theorem drawOutputs_program (s : State) :
    (drawOutputs s).program = s.program := rfl

@[simp] theorem drawOutputs_results (s : State) :
    (drawOutputs s).results = s.results := rfl

/-! ### placeFrame -/

@[simp] theorem placeFrame_cfg (f : Frame) (s : State) :
    (placeFrame f s).cfg = s.cfg := rfl

@[simp] theorem placeFrame_inp (f : Frame) (s : State) :
    (placeFrame f s).inp = { s.inp with decFrame := f } := rfl

@[simp] theorem placeFrame_out (f : Frame) (s : State) :
    (placeFrame f s).out = s.out := rfl

@[simp] theorem placeFrame_remapRaw (f : Frame) (s : State) :
    (placeFrame f s).remapRaw = s.remapRaw := rfl

@[simp] theorem placeFrame_remapVal (f : Frame) (s : State) :
    (placeFrame f s).remapVal = s.remapVal := rfl

@[simp] theorem placeFrame_settling (f : Frame) (s : State) :
    (placeFrame f s).settling = .settling 0 := rfl

@[simp] theorem placeFrame_wasReset (f : Frame) (s : State) :
    (placeFrame f s).wasReset = s.wasReset := rfl

@[simp] theorem placeFrame_draws (f : Frame) (s : State) :
    (placeFrame f s).draws = s.draws := rfl

@[simp] theorem placeFrame_program (f : Frame) (s : State) :
    (placeFrame f s).program = [] := rfl

@[simp] theorem placeFrame_results (f : Frame) (s : State) :
    (placeFrame f s).results = s.results := rfl

/-! ### The readings are records -/

@[simp] theorem readPacket_eq (s : State) : readPacket s = record (.packet s.out.pkt) s := rfl

@[simp] theorem readValid_eq (s : State) : readValid s = record (.valid s.out.pkt.valid) s := rfl

@[simp] theorem readChk_eq (s : State) : readChk s = record (.chk s.out.chk) s := rfl

@[simp] theorem readVal_eq (s : State) : readVal s = record (.val s.remapVal) s := rfl

@[simp] theorem readTelFrame_eq (s : State) : readTelFrame s = record (.frame s.out.telFrame) s := rfl

end Sys2Proof.Machine
end

