-- ==== Sys2Proof/Laws/Ops.lean ====
section
/-! SUPPORT. What each shared operation can do, said once: callers cite these instead of unfolding the operations. -/

namespace Sys2Proof.Machine

/-- Everything a clock edge can do to the registers: reset them, load them, or leave any value (R22, R23, R111). -/
theorem registerEdge_cases (rst : Bool) (o : Outputs) (s : State) :
    (rst = true ∧ registerEdge rst o s = { s with out := resetOutputs, wasReset := true }) ∨
    (rst = false ∧ s.wasReset = true ∧ registerEdge rst o s = { s with out := o }) ∨
    (rst = false ∧ s.wasReset = false ∧ registerEdge rst o s = drawOutputs s) := by
  unfold registerEdge
  cases rst <;> cases h : s.wasReset <;> simp

/-- Everything the output stage can do. -/
theorem publish_cases (o : Outputs) (s : State) :
    (s.Shows ∧ publish o s = { s with out := o }) ∨
    (s.InReset ∧ publish o s = { s with out := resetOutputs, wasReset := true }) ∨
    (s.cfg.outputReg = true ∧ s.inp.rst = false ∧ s.wasReset = false ∧ publish o s = drawOutputs s) := by
  unfold publish State.Shows State.InReset
  cases h : s.cfg.outputReg
  · simp
  · rcases registerEdge_cases s.inp.rst o s with ⟨hr, e⟩ | ⟨hr, hw, e⟩ | ⟨hr, hw, e⟩
    · exact .inr (.inl ⟨⟨rfl, hr⟩, by simpa using e⟩)
    · exact .inl ⟨.inr ⟨hr, hw⟩, by simpa using e⟩
    · exact .inr (.inr ⟨rfl, hr, hw, by simpa using e⟩)

/-- An evaluation that shows its result puts the function value on the output ports. -/
theorem evaluate_of_shows {s : State} (p : Packet) (h : s.Shows) :
    evaluate p s = { s with out := outputsWith s.cfg s.inp p, settling := .settled } := by
  unfold evaluate
  rcases publish_cases (outputsWith s.cfg s.inp p) s with ⟨_, e⟩ | ⟨⟨h1, h2⟩, _⟩ | ⟨h1, h2, h3, _⟩
  · rw [e]
  · simp [State.Shows, h1, h2] at h
  · simp [State.Shows, h1, h3] at h

/-- An evaluation at a reset edge loads the reset values (R23). -/
theorem evaluate_of_inReset {s : State} (p : Packet) (h : s.InReset) :
    evaluate p s = { s with out := resetOutputs, wasReset := true, settling := .settled } := by
  obtain ⟨h1, h2⟩ := h
  simp [evaluate, publish, registerEdge, h1, h2]

/-- An evaluation before the first reset edge draws its outputs (R111). -/
theorem evaluate_of_unreset {s : State} (p : Packet) (h1 : s.cfg.outputReg = true) (h2 : s.inp.rst = false)
    (h3 : s.wasReset = false) : evaluate p s = { drawOutputs s with settling := .settled } := by
  simp [evaluate, publish, registerEdge, h1, h2, h3]

section EvaluateKeeps
variable (p : Packet) (s : State)

/-- An evaluation changes nothing but the outputs and the conditions of the output stage. -/
theorem evaluate_keeps :
    (evaluate p s).cfg = s.cfg ∧ (evaluate p s).inp = s.inp ∧ (evaluate p s).remapRaw = s.remapRaw ∧
    (evaluate p s).remapVal = s.remapVal ∧ (evaluate p s).settling = .settled ∧
    (evaluate p s).program = s.program ∧ (evaluate p s).results = s.results := by
  unfold evaluate
  rcases publish_cases (outputsWith s.cfg s.inp p) s with ⟨_, e⟩ | ⟨_, e⟩ | ⟨_, _, _, e⟩ <;> simp [e]

@[simp] theorem evaluate_cfg : (evaluate p s).cfg = s.cfg := (evaluate_keeps p s).1
@[simp] theorem evaluate_inp : (evaluate p s).inp = s.inp := (evaluate_keeps p s).2.1
@[simp] theorem evaluate_remapRaw : (evaluate p s).remapRaw = s.remapRaw := (evaluate_keeps p s).2.2.1
@[simp] theorem evaluate_remapVal : (evaluate p s).remapVal = s.remapVal := (evaluate_keeps p s).2.2.2.1
@[simp] theorem evaluate_settling : (evaluate p s).settling = .settled := (evaluate_keeps p s).2.2.2.2.1
@[simp] theorem evaluate_program : (evaluate p s).program = s.program := (evaluate_keeps p s).2.2.2.2.2.1
@[simp] theorem evaluate_results : (evaluate p s).results = s.results := (evaluate_keeps p s).2.2.2.2.2.2

end EvaluateKeeps

/-- Everything the outputs can do without a clock edge (R22, R114). -/
theorem showOutputs_cases (s : State) :
    (s.cfg.outputReg = true ∧ showOutputs s = s) ∨
    (s.cfg.outputReg = false ∧ s.settling = .settled ∧ showOutputs s = { s with out := outputsOf s.cfg s.inp }) ∨
    (s.cfg.outputReg = false ∧ (∃ t, s.settling = .settling t) ∧ showOutputs s = drawOutputs s) := by
  unfold showOutputs
  cases h : s.cfg.outputReg <;> cases h' : s.settling <;> simp

section RegisterEdgeKeeps
variable (rst : Bool) (o : Outputs) (s : State)

/-- A clock edge changes nothing but the registers and the conditions of the output stage. -/
theorem registerEdge_keeps :
    (registerEdge rst o s).cfg = s.cfg ∧ (registerEdge rst o s).inp = s.inp ∧ (registerEdge rst o s).remapRaw = s.remapRaw ∧
    (registerEdge rst o s).remapVal = s.remapVal ∧ (registerEdge rst o s).settling = s.settling ∧
    (registerEdge rst o s).program = s.program ∧ (registerEdge rst o s).results = s.results := by
  rcases registerEdge_cases rst o s with ⟨_, e⟩ | ⟨_, _, e⟩ | ⟨_, _, e⟩ <;> simp [e]

@[simp] theorem registerEdge_cfg : (registerEdge rst o s).cfg = s.cfg := (registerEdge_keeps rst o s).1
@[simp] theorem registerEdge_inp : (registerEdge rst o s).inp = s.inp := (registerEdge_keeps rst o s).2.1
@[simp] theorem registerEdge_remapRaw : (registerEdge rst o s).remapRaw = s.remapRaw := (registerEdge_keeps rst o s).2.2.1
@[simp] theorem registerEdge_remapVal : (registerEdge rst o s).remapVal = s.remapVal := (registerEdge_keeps rst o s).2.2.2.1
@[simp] theorem registerEdge_settling : (registerEdge rst o s).settling = s.settling := (registerEdge_keeps rst o s).2.2.2.2.1
@[simp] theorem registerEdge_program : (registerEdge rst o s).program = s.program := (registerEdge_keeps rst o s).2.2.2.2.2.1
@[simp] theorem registerEdge_results : (registerEdge rst o s).results = s.results := (registerEdge_keeps rst o s).2.2.2.2.2.2

end RegisterEdgeKeeps

/-- What an edge inside whose window the inputs change can load (R115, U11). -/
theorem windowOutputs_any (c : Config) (d : Nat) : AnyOutputs c d (windowOutputs c d) := by
  unfold windowOutputs
  split
  · exact .inr ⟨_, rfl, rfl⟩
  · exact .inl rfl

/-- Everything an edge inside whose window the inputs change can do: with a register it is an edge at some `rst`, which is the held
`rst` where that is held, and without one it is a drive. -/
theorem clockEdgeWhileChanging_cases (x : Inputs) (s : State) :
    (s.cfg.outputReg = false ∧ clockEdgeWhileChanging x s = driveInputs x s) ∨
    (s.cfg.outputReg = true ∧ ∃ rst, (s.inp.rst = x.rst → rst = x.rst) ∧ clockEdgeWhileChanging x s =
      { registerEdge rst (windowOutputs s.cfg s.draws) { s with draws := s.draws + 1 } with
        inp := x
        settling := .settling 0 }) := by
  cases h : s.cfg.outputReg
  · exact .inl ⟨rfl, by simp [clockEdgeWhileChanging, h]⟩
  · refine .inr ⟨rfl, if s.inp.rst = x.rst then x.rst else (sampleInWindow s.draws).rst, fun e => if_pos e, ?_⟩
    simp [clockEdgeWhileChanging, h]

/-- Driving a frame or the telemetry ports leaves `Shows` as it was. -/
@[simp] theorem driveFrame_shows (f : Frame) (s : State) : (driveFrame f s).Shows ↔ s.Shows := Iff.rfl

@[simp] theorem driveTelemetry_shows (dev : Byte) (v : BitVec 32) (flags : Byte) (cnt : BitVec 32) (s : State) :
    (driveTelemetry dev v flags cnt s).Shows ↔ s.Shows := Iff.rfl

end Sys2Proof.Machine
end

