-- ==== Sys2Proof/Laws/PerInstr.lean ====
section
/-! SUPPORT. Statements about every instruction as syntax, one lemma per constructor. -/

namespace Sys2Proof.Laws.CommandByte

/-- The command byte that the row of an instruction fixes in its frame (30_encoding.md R48), where it fixes one. -/
def rowCode : Instr → Option Byte
  | .joystick _ _ _ _ _ _ => some 0x01#8
  | .button _ _ _ _ _ _ => some 0x02#8
  | .heartbeat _ _ _ _ _ _ => some 0x03#8
  | .estop _ _ _ _ _ _ => some 0x04#8
  | .announceCapabilities _ _ _ _ _ _ => some 0x05#8
  | .servoZ _ _ _ _ _ _ => some 0x06#8
  | .telemetry _ _ _ _ _ _ => some 0x10#8
  | .other _ cmd _ _ _ _ _ => some cmd
  | .invalid _ => none
  | .validate _ => none
  | .checksum _ => none
  | .decode _ => none
  | .remap _ => none
  | .encodeTelemetry _ _ _ _ => none

/-- Where the row fixes a command byte, the instruction has a frame and that frame carries it at byte 2. -/
def Statement (i : Instr) : Prop := ∀ code, rowCode i = some code → ∃ f, encode i = some f ∧ f.read 2 = code

theorem joystick (dev p0 p1 p2 p3 p4 : Byte) : Statement (.joystick dev p0 p1 p2 p3 p4) := by
  rintro _ ⟨⟩; exact ⟨_, rfl, rfl⟩

theorem button (dev p0 p1 p2 p3 p4 : Byte) : Statement (.button dev p0 p1 p2 p3 p4) := by
  rintro _ ⟨⟩; exact ⟨_, rfl, rfl⟩

theorem heartbeat (dev p0 p1 p2 p3 p4 : Byte) : Statement (.heartbeat dev p0 p1 p2 p3 p4) := by
  rintro _ ⟨⟩; exact ⟨_, rfl, rfl⟩

theorem estop (dev p0 p1 p2 p3 p4 : Byte) : Statement (.estop dev p0 p1 p2 p3 p4) := by
  rintro _ ⟨⟩; exact ⟨_, rfl, rfl⟩

theorem announceCapabilities (dev p0 p1 p2 p3 p4 : Byte) : Statement (.announceCapabilities dev p0 p1 p2 p3 p4) := by
  rintro _ ⟨⟩; exact ⟨_, rfl, rfl⟩

theorem servoZ (dev p0 p1 p2 p3 p4 : Byte) : Statement (.servoZ dev p0 p1 p2 p3 p4) := by
  rintro _ ⟨⟩; exact ⟨_, rfl, rfl⟩

theorem telemetry (dev p0 p1 p2 p3 p4 : Byte) : Statement (.telemetry dev p0 p1 p2 p3 p4) := by
  rintro _ ⟨⟩; exact ⟨_, rfl, rfl⟩

theorem other (dev cmd p0 p1 p2 p3 p4 : Byte) : Statement (.other dev cmd p0 p1 p2 p3 p4) := by
  rintro _ ⟨⟩; exact ⟨_, rfl, rfl⟩

theorem invalid (frame : Frame) : Statement (.invalid frame) := by rintro _ ⟨⟩

theorem validate (frame : Frame) : Statement (.validate frame) := by rintro _ ⟨⟩

theorem checksum (frame : Frame) : Statement (.checksum frame) := by rintro _ ⟨⟩

theorem decode (frame : Frame) : Statement (.decode frame) := by rintro _ ⟨⟩

theorem remap (raw : Byte) : Statement (.remap raw) := by rintro _ ⟨⟩

theorem encodeTelemetry (dev : Byte) (voltage : BitVec 32) (flags : Byte) (cnt : BitVec 32) :
    Statement (.encodeTelemetry dev voltage flags cnt) := by rintro _ ⟨⟩

end Sys2Proof.Laws.CommandByte
end

