-- ==== Sys2Proof/Tests/Slice0.lean ====
section
/-! SUPPORT. Small tests, one step each, with the expected values of 95_test_vectors.md, and a witness for the hypotheses of
every statement. -/

namespace Sys2Proof.Tests

open Sys2Proof.Machine

/-- The default machine with an output register (OUTPUT_REG = 1), reset released. -/
def registered : State := { State.reset with cfg := { Config.byDefault with outputReg := true } }

/-- That machine with `rst` at 1. -/
def inReset : State := { registered with inp := { State.reset.inp with rst := true } }

/-- That machine before its first reset edge. -/
def cold : State := { registered with wasReset := false }

/-- A configuration with the least legal width and every other parameter but `OUTPUT_REG` away from its default. -/
def otherConfig : Config :=
  { axisW := 9, voltMul := .exact, voltRound := .nearest, voltNanByte := 0xFF#8, outputReg := false, remapImpl := .lut }

/-- The next state of an instruction, where there is one. -/
def after (i : Instr) (s : State) : Option State :=
  match exec i s with
  | .next t => some t
  | .fault _ => none
  | .refused _ => none

/-- The packet on the output ports after an instruction, from reset. -/
def packetAfter (i : Instr) : Option Packet := (after i State.reset).map fun t => t.out.pkt

/-- `dec_start_ok`, `dec_end_ok`, `dec_chk_ok` and `dec_chk` after an instruction. -/
def causesAfter (i : Instr) (s : State) : Option (Bool × Bool × Bool × Byte) :=
  (after i s).map fun t => (t.out.startOk, t.out.endOk, t.out.chkOk, t.out.chk)

/-- What an instruction reads, from reset. -/
def readAfter (i : Instr) : Option (List Reading) := (after i State.reset).map fun t => t.results

/-! ## Ill-formed terms are refused -/

/-- OTHER does not hold a code of the enumeration (R74). -/
theorem test_other_refuses_assigned_codes :
    (assignedCodes.map fun c => (Instr.other 0x01 c 0 0 0 0 0).wellFormed) = List.replicate 7 false := by decide

/-- OTHER holds the codes next to the enumeration, and the ends of its three ranges (R74). -/
theorem test_other_takes_unassigned_codes :
    (([0x00, 0x07, 0x0F, 0x11, 0xFF] : List Byte).map fun c => (Instr.other 0x01 c 0 0 0 0 0).wellFormed) =
      List.replicate 5 true := by decide

/-- The frames V1 to V13 (95_test_vectors.md section 2.1). -/
def v1 : Frame := #v[0xAA, 0x01, 0x01, 0x64, 0x00, 0xC8, 0x00, 0x00, 0xAC, 0x55]

/-- Vector V2. -/
def v2 : Frame := #v[0xAA, 0x01, 0x01, 0x64, 0x00, 0xC8, 0x00, 0x00, 0xAD, 0x55]

/-- Vector V3. -/
def v3 : Frame := #v[0x00, 0x00, 0x00, 0x00, 0x00, 0x00, 0x00, 0x00, 0x00, 0x00]

/-- Vector V4. -/
def v4 : Frame := #v[0x55, 0x01, 0x01, 0x64, 0x00, 0xC8, 0x00, 0x00, 0xAC, 0xAA]

/-- Vector V5. -/
def v5 : Frame := #v[0xAB, 0x01, 0x01, 0x64, 0x00, 0xC8, 0x00, 0x00, 0xAC, 0x55]

/-- Vector V6. -/
def v6 : Frame := #v[0xAA, 0x01, 0x01, 0x64, 0x00, 0xC8, 0x00, 0x00, 0xAC, 0x54]

/-- Vector V7. -/
def v7 : Frame := #v[0xAA, 0xFF, 0xFF, 0xFF, 0xFF, 0xFF, 0xFF, 0xFF, 0xFF, 0x55]

/-- Vector V8. -/
def v8 : Frame := #v[0xAA, 0xFF, 0xFF, 0xFF, 0xFF, 0xFF, 0xFF, 0xFF, 0x00, 0x55]

/-- Vector V9. -/
def v9 : Frame := #v[0xAA, 0x00, 0x00, 0x00, 0x00, 0x00, 0x00, 0x00, 0x00, 0x55]

/-- Vector V10. -/
def v10 : Frame := #v[0xAA, 0x01, 0x01, 0x65, 0x01, 0xC8, 0x00, 0x00, 0xAC, 0x55]

/-- Vector V11. -/
def v11 : Frame := #v[0xAA, 0x01, 0x01, 0x00, 0x64, 0xC8, 0x00, 0x00, 0xAC, 0x55]

/-- Vector V12. -/
def v12 : Frame := #v[0x00, 0x00, 0x00, 0x00, 0x00, 0x00, 0x00, 0x00, 0x00, 0x55]

/-- Vector V13. -/
def v13 : Frame := #v[0xAA, 0x12, 0x34, 0x56, 0x78, 0x9A, 0xBC, 0xDE, 0x00, 0x55]

/-- INVALID does not hold a frame that passes VALIDATE (R64). -/
theorem test_invalid_refuses_a_valid_frame : (Instr.invalid v1).wellFormed = false := by decide

/-- INVALID holds a frame with a wrong checksum, START or END (R64). -/
theorem test_invalid_takes_each_cause :
    (Instr.invalid v2).wellFormed = true ∧ (Instr.invalid v5).wellFormed = true ∧ (Instr.invalid v6).wellFormed = true := by
  decide

/-! ## Decoding of frames written out from the encoding (R41, R48; vectors DV1 to DV21) -/

theorem test_decode_joystick :
    decodeFrame #v[0xAA, 0x01, 0x01, 0x00, 0x64, 0xC8, 0xFF, 0xA5, 0xF6, 0x55] = .joystick 0x01 0x00 0x64 0xC8 0xFF 0xA5 := by decide

theorem test_decode_button :
    decodeFrame #v[0xAA, 0x02, 0x02, 0x64, 0x65, 0x11, 0x22, 0x33, 0x01, 0x55] = .button 0x02 0x64 0x65 0x11 0x22 0x33 := by decide

theorem test_decode_heartbeat :
    decodeFrame #v[0xAA, 0x00, 0x03, 0xFF, 0xFF, 0xFF, 0xFF, 0xFF, 0xFC, 0x55] = .heartbeat 0x00 0xFF 0xFF 0xFF 0xFF 0xFF := by decide

theorem test_decode_estop :
    decodeFrame #v[0xAA, 0x09, 0x04, 0x01, 0x02, 0x03, 0x04, 0x05, 0x0C, 0x55] = .estop 0x09 0x01 0x02 0x03 0x04 0x05 := by decide

theorem test_decode_announce :
    decodeFrame #v[0xAA, 0x09, 0x05, 0x01, 0x02, 0x00, 0x00, 0x00, 0x0F, 0x55] = .announceCapabilities 0x09 0x01 0x02 0x00 0x00 0x00 := by decide

theorem test_decode_servoZ :
    decodeFrame #v[0xAA, 0x03, 0x06, 0xFF, 0x12, 0x34, 0x56, 0x78, 0xF2, 0x55] = .servoZ 0x03 0xFF 0x12 0x34 0x56 0x78 := by decide

theorem test_decode_telemetry :
    decodeFrame #v[0xAA, 0x05, 0x10, 0x4A, 0x03, 0x2C, 0x00, 0x00, 0x70, 0x55] = .telemetry 0x05 0x4A 0x03 0x2C 0x00 0x00 := by decide

theorem test_decode_other :
    decodeFrame #v[0xAA, 0x01, 0xFF, 0x11, 0x22, 0x33, 0x44, 0x55, 0xEF, 0x55] = .other 0x01 0xFF 0x11 0x22 0x33 0x44 0x55 := by decide

theorem test_decode_other_zero :
    decodeFrame #v[0xAA, 0x00, 0x00, 0x00, 0x00, 0x00, 0x00, 0x00, 0x00, 0x55] = .other 0x00 0x00 0x00 0x00 0x00 0x00 0x00 := by decide

theorem test_decode_bad_checksum :
    decodeFrame #v[0xAA, 0x01, 0x01, 0x00, 0x64, 0xC8, 0xFF, 0xA5, 0xF7, 0x55] = .invalid #v[0xAA, 0x01, 0x01, 0x00, 0x64, 0xC8, 0xFF, 0xA5, 0xF7, 0x55] := by decide

theorem test_decode_bad_start :
    decodeFrame #v[0xAB, 0x01, 0x02, 0x10, 0x20, 0x00, 0x00, 0x00, 0x33, 0x55] = .invalid #v[0xAB, 0x01, 0x02, 0x10, 0x20, 0x00, 0x00, 0x00, 0x33, 0x55] := by decide

/-- Byte 0 of the frame is the low byte of the word (R29): the joystick frame, written as one number. -/
theorem test_table_word : decodeTableWord 80 0x55F6A5FFC864000101AA = some (.joystick 0x01 0x00 0x64 0xC8 0xFF 0xA5) := by decide

/-- A row's bare match word has checksum byte 0, so it is no JOYSTICK frame (R64; log 17). -/
theorem test_bare_match_word_is_invalid :
    decodeTableWord 80 0x550000000000000100AA =
      some (.invalid #v[0xAA, 0x00, 0x01, 0x00, 0x00, 0x00, 0x00, 0x00, 0x00, 0x55]) := by decide

/-- Nine bytes are no frame (R26). -/
theorem test_short_list_is_refused : (match decodeBytes [0xAA, 1, 1, 0, 0, 0, 0, 0, 0] with
    | .ok _ => false
    | .error e => decide (e = .shortFrame)) = true := by decide

/-- The bytes after a frame are left (R40). -/
theorem test_rest_is_left : (match decodeBytes (v1.toList ++ [0x77]) with
    | .ok (i, rest) => decide (i = .joystick 0x01 0x64 0x00 0xC8 0x00 0x00) && decide (rest = [0x77#8])
    | .error _ => false) = true := by decide

theorem test_encode_button :
    encode (.button 0x07 0xFF 0x05 0x00 0x00 0x00) = some #v[0xAA, 0x07, 0x02, 0xFF, 0x05, 0x00, 0x00, 0x00, 0xFF, 0x55] := by decide

/-! ## Block operations -/

/-- V1: valid. -/
theorem test_validate_valid : readAfter (.validate v1) = some [.valid true] := by decide

/-- V4: exchanged sentinels fail both tests and the checksum test passes. -/
theorem test_validate_exchanged : causesAfter (.validate v4) State.reset = some (false, false, true, 0xAC) := by decide

/-- V7: seven 0xFF bytes give 0xFF. -/
theorem test_checksum_odd : readAfter (.checksum v7) = some [.chk 0xFF] := by decide

/-- V13: the checksum of an invalid frame. -/
theorem test_checksum_invalid : readAfter (.checksum v13) = some [.chk 0xF0] := by decide

/-- V10 and V11 are not detected (R61). -/
theorem test_undetected : frameValid v10 = true ∧ frameValid v11 = true := by decide

/-- E6. -/
theorem test_decode_joystick_packet :
    readAfter (.decode v1) = some [.packet ⟨true, 0x01, 0, -100, 100, -100, 0, 0x00⟩] := by decide

/-- P1 line 3: an invalid frame does not hold the packet before it. -/
theorem test_decode_does_not_hold :
    ((after (.decode v1) State.reset).bind (after (.decode v2))).map (fun t => t.out.pkt) =
      some ⟨false, 0x00, 0, 0, 0, 0, 0, 0x00⟩ := by decide

/-- The remap table (95_test_vectors.md section 2.3). -/
theorem test_remap_table :
    (([0, 1, 50, 99, 100, 101, 150, 199, 200, 201, 254, 255] : List Byte).map (remappedOperand Config.byDefault)) =
      [-100, -99, -50, -1, 0, 1, 50, 99, 100, 100, 100, 100] := by decide

theorem test_remap_saturates : readAfter (.remap 0xC9) = some [.val 100] := by decide

/-! ## The arms (95_test_vectors.md section 2.2) -/

/-- DV1. -/
theorem test_joystick :
    packetAfter (.joystick 0x01 0x00 0x64 0xC8 0xFF 0xA5) = some ⟨true, 0x01, -100, 0, 100, 100, 0, 0xA5⟩ := by decide

/-- DV2. -/
theorem test_joystick_edges :
    packetAfter (.joystick 0x01 0xC9 0x01 0x63 0x65 0x0F) = some ⟨true, 0x01, 100, -99, -1, 1, 0, 0x0F⟩ := by decide

/-- DV5. -/
theorem test_button_zero_extends :
    packetAfter (.button 0x02 0x80 0xFF 0x00 0x00 0x00) = some ⟨true, 0x02, 128, 255, 0, 0, 0, 0x80⟩ := by decide

/-- DV4. -/
theorem test_button_is_raw :
    packetAfter (.button 0x02 0x64 0x65 0x11 0x22 0x33) = some ⟨true, 0x02, 100, 101, 0, 0, 0, 0x64⟩ := by decide

/-- DV11. -/
theorem test_heartbeat :
    packetAfter (.heartbeat 0x00 0xFF 0xFF 0xFF 0xFF 0xFF) = some ⟨true, 0x03, 0, 0, 0, 0, 0, 0x00⟩ := by decide

/-- DV12. -/
theorem test_estop : packetAfter (.estop 0x09 0x01 0x02 0x03 0x04 0x05) = some ⟨true, 0x04, 0, 0, 0, 0, 0, 0x00⟩ := by decide

/-- DV13. -/
theorem test_announce :
    packetAfter (.announceCapabilities 0x09 0x01 0x02 0x00 0x00 0x00) = some ⟨true, 0x05, 0, 0, 0, 0, 0, 0x00⟩ := by decide

/-- DV7. -/
theorem test_servoZ_low :
    packetAfter (.servoZ 0x03 0x00 0x00 0x00 0x00 0x00) = some ⟨true, 0x06, 0, 0, 0, 0, -100, 0x00⟩ := by decide

/-- DV8. -/
theorem test_servoZ_saturates :
    packetAfter (.servoZ 0x03 0xFF 0x12 0x34 0x56 0x78) = some ⟨true, 0x06, 0, 0, 0, 0, 100, 0x00⟩ := by decide

/-- DV14. -/
theorem test_telemetry :
    packetAfter (.telemetry 0x05 0x4A 0x03 0x2C 0x00 0x00) = some ⟨true, 0x10, 0, 0, 0, 0, 0, 0x00⟩ := by decide

/-- DV18. -/
theorem test_other : packetAfter (.other 0x00 0x81 0xC8 0x00 0x00 0x00 0x00) = some ⟨true, 0x81, 0, 0, 0, 0, 0, 0x00⟩ := by decide

/-- DV20. -/
theorem test_invalid :
    packetAfter (.invalid #v[0xAA, 0x01, 0x01, 0x00, 0x64, 0xC8, 0xFF, 0xA5, 0xF7, 0x55]) = some ⟨false, 0x00, 0, 0, 0, 0, 0, 0x00⟩ := by decide

/-- P4 lines 1 and 3: the causes stand on their own bits. -/
theorem test_invalid_causes :
    causesAfter (.invalid v3) State.reset = some (false, false, true, 0x00) ∧
    causesAfter (.invalid v13) State.reset = some (true, true, false, 0xF0) := by decide

/-! ## Telemetry -/

/-- T1. -/
theorem test_encode_telemetry :
    readAfter (.encodeTelemetry 0x05 0x40ECCCCD 0x03 300) =
      some [.frame #v[0xAA, 0x05, 0x10, 0x4A, 0x03, 0x2C, 0x00, 0x00, 0x70, 0x55]] := by decide

/-- T7 with `VOLT_MUL` = exact. -/
theorem test_encode_telemetry_exact :
    telemetryFrame { Config.byDefault with voltMul := .exact } 0x02 0x40133333 0x01 0x12345678 =
      #v[0xAA, 0x02, 0x10, 0x16, 0x01, 0x78, 0x00, 0x00, 0x7D, 0x55] := by decide

/-- The inputs of the voltage table (95_test_vectors.md section 2.4), in its order. -/
def voltages : List (BitVec 32) :=
  [
   0x40ECCCCD, 0x41F00000, 0x41C80000, 0x41C80001, 0x7F7FFFFF, 0x7F800000,
   0x41C7EB85, 0x4145999A, 0x40EEB852, 0x40EE6666, 0x40866666, 0x40533333,
   0x40133333, 0x3E19999A, 0x3DCCCCCD, 0x3DCCCCCB, 0x3D4CCCCD, 0x000116C2,
   0x00000000, 0x80000000, 0xBF800000, 0xFF800000, 0x7FC00000, 0xFFC00001]

theorem test_voltage_binary32_trunc :
    voltages.map (fun f => (voltByte { Config.byDefault with voltMul := .binary32, voltRound := .trunc } f).toNat) = [
   74, 250, 250, 250, 250, 250, 249, 123, 74, 74, 42, 33,
   23, 1, 1, 0, 0, 0, 0, 0, 0, 0, 0, 0] := by decide

theorem test_voltage_binary32_nearest :
    voltages.map (fun f => (voltByte { Config.byDefault with voltMul := .binary32, voltRound := .nearest } f).toNat) = [
   74, 250, 250, 250, 250, 250, 250, 124, 75, 75, 42, 33,
   23, 2, 1, 1, 1, 0, 0, 0, 0, 0, 0, 0] := by decide

theorem test_voltage_exact_trunc :
    voltages.map (fun f => (voltByte { Config.byDefault with voltMul := .exact, voltRound := .trunc } f).toNat) = [
   74, 250, 250, 250, 250, 250, 249, 123, 74, 74, 41, 32,
   22, 1, 1, 0, 0, 0, 0, 0, 0, 0, 0, 0] := by decide

theorem test_voltage_exact_nearest :
    voltages.map (fun f => (voltByte { Config.byDefault with voltMul := .exact, voltRound := .nearest } f).toNat) = [
   74, 250, 250, 250, 250, 250, 250, 124, 75, 74, 42, 33,
   23, 2, 1, 1, 1, 0, 0, 0, 0, 0, 0, 0] := by decide

/-! ## Steps, the register and its reset (program P3) -/

/-- A word placed for the next step is the frame that the next step runs. -/
theorem test_step_runs_the_placed_word :
    (match step (State.reset.withFetchWord 80 0x55FF00000005FF0207AA) with
      | .next t => decide (t.out.pkt = ⟨true, 0x02, 255, 5, 0, 0, 0, 0xFF⟩)
      | .fault _ => false
      | .refused _ => false) = true := by decide

/-- From reset, with no stimulus, the step evaluates the ten zero bytes on `dec_frame`: INVALID (V3). -/
theorem test_step_from_reset :
    (match step State.reset with
      | .next t => decide (t.out.pkt.valid = false)
      | .fault _ => false
      | .refused _ => false) = true := by decide

/-- P3, edge e0: the frame is discarded. -/
theorem test_reset_edge :
    (after (.decode v1) inReset).map (fun t => (t.out.pkt, t.out.startOk, t.out.chk, t.out.telFrame)) =
      some (⟨false, 0x00, 0, 0, 0, 0, 0, 0x00⟩, false, 0x00#8, #v[0x00, 0x00, 0x00, 0x00, 0x00, 0x00, 0x00, 0x00, 0x00, 0x00]) := by decide

/-- P3, edge e2: a bad START after a reset. -/
theorem test_registered_edge :
    causesAfter (.decode #v[0xAB, 0x01, 0x02, 0x10, 0x20, 0x00, 0x00, 0x00, 0x33, 0x55]) registered =
      some (false, true, true, 0x33) := by decide

/-- `rst` held at 1 overrides a frame that changes in the window (R111). -/
theorem test_reset_overrides_a_changing_frame :
    (clockEdgeWhileChanging { inReset.inp with decFrame := v1 } inReset).out = resetOutputs := by rfl

/-- Before the first reset edge the outputs are a draw (R111). -/
theorem test_cold_edge : (after (.decode v1) cold).map (fun t => t.out) = some (freeOutputs cold.cfg 0) := by rfl

/-- Aux flags A and B have one value (R21). -/
theorem test_aux_flags : [AuxFlag.w, .a, .b, .l, .r].map auxMask = [0x01#8, 0x02#8, 0x02#8, 0x04#8, 0x08#8] := by decide

/-! ## Witnesses: states and operands that meet the hypotheses of the statements, at the ends of their ranges -/

/-- `State.Shows`, by each of its two grounds. -/
theorem witness_shows : State.reset.Shows ∧ registered.Shows := ⟨.inl rfl, .inr ⟨rfl, rfl⟩⟩

/-- StepRunsTheStandingFrame: no stimulus pending, and ten bytes that decode, for a valid and an invalid frame. -/
theorem witness_StepRunsTheStandingFrame :
    (placeFrame v1 State.reset).program = [] ∧
    decodeBytes (placeFrame v1 State.reset).inp.decFrame.toList = .ok (.joystick 0x01 0x64 0x00 0xC8 0x00 0x00, []) ∧
    State.reset.program = [] ∧ decodeBytes State.reset.inp.decFrame.toList = .ok (.invalid v3, []) :=
  ⟨rfl, rfl, rfl, rfl⟩

/-- EncodedFramesDecodeBack: well-formed instructions with frames, from the first and the last rows. -/
theorem witness_EncodedFramesDecodeBack :
    ((Instr.joystick 0x00 0x00 0x00 0x00 0x00 0x00).wellFormed = true ∧
      encode (.joystick 0x00 0x00 0x00 0x00 0x00 0x00) = some #v[0xAA, 0x00, 0x01, 0x00, 0x00, 0x00, 0x00, 0x00, 0x01, 0x55]) ∧
    ((Instr.other 0xFF 0xFF 0xFF 0xFF 0xFF 0xFF 0xFF).wellFormed = true ∧
      encode (.other 0xFF 0xFF 0xFF 0xFF 0xFF 0xFF 0xFF) = some v7) ∧
    ((Instr.invalid v3).wellFormed = true ∧ encode (.invalid v3) = some v3) := by decide

/-- SentinelTests: a frame with START and END exchanged. -/
theorem witness_SentinelTests : v4.read 0 = 0x55#8 ∧ v4.read 9 = 0xAA#8 := by decide

/-- ChecksumResult, ValidateResult, CausesAreReportedInParallel, TelemetryRoundTrip, EncodeTelemetryResult, BareCommandResults:
`Shows` alone. -/
theorem witness_ChecksumResult : State.reset.Shows ∧ registered.Shows := witness_shows

theorem witness_ValidateResult : State.reset.Shows ∧ registered.Shows := witness_shows

theorem witness_CausesAreReportedInParallel : State.reset.Shows ∧ registered.Shows := witness_shows

theorem witness_TelemetryRoundTrip : State.reset.Shows ∧ registered.Shows := witness_shows

theorem witness_EncodeTelemetryResult : State.reset.Shows ∧ registered.Shows := witness_shows

theorem witness_BareCommandResults : State.reset.Shows ∧ registered.Shows := witness_shows

/-- CausesAreReportedInParallel: each cause alone, all of them, and none. -/
theorem witness_each_cause :
    (v5.read 0 ≠ 0xAA#8 ∧ v5.read 9 = 0x55#8 ∧ chkOk v5 = true) ∧ (v6.read 0 = 0xAA#8 ∧ v6.read 9 ≠ 0x55#8 ∧ chkOk v6 = true) ∧
    (v2.read 0 = 0xAA#8 ∧ v2.read 9 = 0x55#8 ∧ chkOk v2 = false) ∧ frameValid v1 = true := by decide

/-- WhatTheChecksumDetects: an odd difference, the first and the last byte and bit, an even difference, a reordering. -/
theorem witness_WhatTheChecksumDetects :
    frameValid v1 = true ∧ diffCount v1 v2 0 % 2 = 1 ∧
    ((1 : Nat) ≤ (1 : Fin 10).val ∧ (1 : Fin 10).val ≤ 8 ∧ (0 : Nat) < 8) ∧
    ((1 : Nat) ≤ (8 : Fin 10).val ∧ (8 : Fin 10).val ≤ 8 ∧ (7 : Nat) < 8) ∧
    (∀ k < 8, diffCount v1 v10 k % 2 = 0) ∧ v11.read 8 = v1.read 8 ∧
    List.Perm [v11.read 1, v11.read 2, v11.read 3, v11.read 4, v11.read 5, v11.read 6, v11.read 7]
      [v1.read 1, v1.read 2, v1.read 3, v1.read 4, v1.read 5, v1.read 6, v1.read 7] := by decide

/-- A well-formed frame and frames that are not, by each test. -/
theorem witness_frameWellFormed :
    frameWellFormed v1 ∧ ¬ frameWellFormed v2 ∧ ¬ frameWellFormed v5 ∧ ¬ frameWellFormed v6 := by
  unfold frameWellFormed; decide

/-- DecodeResult: a legal width (the least and the default), `Shows`, and a frame for each branch. -/
theorem witness_DecodeResult :
    State.reset.cfg.legal = true ∧ State.reset.Shows ∧ otherConfig.legal = true ∧ ¬ frameWellFormed v3 ∧
    (frameWellFormed v1 ∧ v1.read 2 = 0x01#8) ∧
    (frameWellFormed (mkFrame 0x02 0x02 0x80 0xFF 0x00 0x00 0x00) ∧ (mkFrame 0x02 0x02 0x80 0xFF 0x00 0x00 0x00).read 2 =
      0x02#8) ∧
    (frameWellFormed (mkFrame 0x03 0x06 0xFF 0x12 0x34 0x56 0x78) ∧ (mkFrame 0x03 0x06 0xFF 0x12 0x34 0x56 0x78).read 2 =
      0x06#8) ∧
    (frameWellFormed v9 ∧ v9.read 2 ≠ 0x01#8 ∧ v9.read 2 ≠ 0x02#8 ∧ v9.read 2 ≠ 0x06#8) := by
  refine ⟨rfl, .inl rfl, rfl, ?_⟩
  unfold frameWellFormed; decide

/-- InvalidResult: each cause of an invalid frame. -/
theorem witness_InvalidResult : ¬ frameWellFormed v2 ∧ ¬ frameWellFormed v5 ∧ ¬ frameWellFormed v6 ∧ State.reset.Shows :=
  ⟨witness_frameWellFormed.2.1, witness_frameWellFormed.2.2.1, witness_frameWellFormed.2.2.2, .inl rfl⟩

/-- UnpopulatedFieldsAreZero: a valid frame of another arm for each clause. -/
theorem witness_UnpopulatedFieldsAreZero :
    frameValid v9 = true ∧ v9.read 2 ≠ 0x01#8 ∧ v9.read 2 ≠ 0x02#8 ∧ v9.read 2 ≠ 0x06#8 := by decide

/-- CommandZeroDiffersFromInvalidOnlyInValid: V9 and V3. -/
theorem witness_CommandZeroDiffersFromInvalidOnlyInValid : frameValid v9 = true ∧ v9.read 2 = 0x00#8 ∧ frameValid v3 = false := by
  decide

/-- JoystickResult, ButtonResult, ServoZResult: a legal width and `Shows`, with and without the register. -/
theorem witness_JoystickResult :
    (State.reset.cfg.legal = true ∧ State.reset.Shows) ∧ (registered.cfg.legal = true ∧ registered.Shows) :=
  ⟨⟨rfl, witness_shows.1⟩, ⟨rfl, witness_shows.2⟩⟩

theorem witness_ButtonResult :
    (State.reset.cfg.legal = true ∧ State.reset.Shows) ∧ (registered.cfg.legal = true ∧ registered.Shows) :=
  witness_JoystickResult

theorem witness_ServoZResult :
    (State.reset.cfg.legal = true ∧ State.reset.Shows) ∧ (registered.cfg.legal = true ∧ registered.Shows) :=
  witness_JoystickResult

/-- OtherResult: the ends of the three ranges of unassigned codes. -/
theorem witness_OtherResult :
    (∀ cmd ∈ ([0x00, 0x07, 0x0F, 0x11, 0xFF] : List Byte),
      cmd ∉ [0x01#8, 0x02#8, 0x03#8, 0x04#8, 0x05#8, 0x06#8, 0x10#8]) ∧ State.reset.Shows :=
  ⟨by decide, witness_shows.1⟩

/-- PacketValueRanges: a packet for each clause, at the least legal width. -/
theorem witness_PacketValueRanges :
    otherConfig.legal = true ∧ (decodePacket otherConfig v2).valid = false ∧ (decodePacket otherConfig v1).cmd = 0x01#8 ∧
    (decodePacket otherConfig (mkFrame 0x02 0x02 0x80 0xFF 0x00 0x00 0x00)).cmd = 0x02#8 := by decide

/-- The legal widths that the remap statements ask for: the least, and the default. -/
theorem witness_RemapResult : State.reset.cfg.legal = true ∧ otherConfig.legal = true := by decide

theorem witness_RemapNeedsNoRounding : Config.byDefault.legal = true ∧ otherConfig.legal = true := by decide

theorem witness_OperandForms : Config.byDefault.legal = true ∧ otherConfig.legal = true := by decide

/-- RemapProperties: the ends of each clause's range. -/
theorem witness_RemapProperties :
    otherConfig.legal = true ∧ (-100 ≤ (-100 : Int) ∧ (-100 : Int) ≤ 100) ∧ (-100 ≤ (100 : Int) ∧ (100 : Int) ≤ 100) ∧
    (0x00#8).toNat ≤ (0xFF#8).toNat ∧
    ((200#8).toNat ≤ 200 ∧ remappedOperand otherConfig 200#8 = remappedOperand otherConfig 200#8) ∧
    200 ≤ (200#8).toNat ∧ 200 ≤ (255#8).toNat := by decide

/-- RemapFormsAgree: the ends of the saturated range. -/
theorem witness_RemapFormsAgree : 200 ≤ (200#8).toNat ∧ 200 ≤ (255#8).toNat := by decide

/-- VoltageAboveMaxSaturates: the least pattern above 25.0, and +infinity. -/
theorem witness_VoltageAboveMaxSaturates :
    (0x41C80000 < (0x41C80001#32).toNat ∧ (0x41C80001#32).toNat ≤ 0x7F800000) ∧
    (0x41C80000 < (0x7F800000#32).toNat ∧ (0x7F800000#32).toNat ≤ 0x7F800000) := by decide

/-- VoltageAtOrBelowZeroGivesZero: +0, -0 and -infinity. -/
theorem witness_VoltageAtOrBelowZeroGivesZero :
    (0x00000000#32).toNat = 0 ∧ (0x80000000 ≤ (0x80000000#32).toNat ∧ (0x80000000#32).toNat ≤ 0xFF800000) ∧
    (0x80000000 ≤ (0xFF800000#32).toNat ∧ (0xFF800000#32).toNat ≤ 0xFF800000) := by decide

/-- NanVoltageGivesTheNanByte: the first and the last NaN of each sign. -/
theorem witness_NanVoltageGivesTheNanByte :
    (0x7F800000 < (0x7F800001#32).toNat ∧ (0x7F800001#32).toNat < 0x80000000) ∧
    (0x7F800000 < (0x7FFFFFFF#32).toNat ∧ (0x7FFFFFFF#32).toNat < 0x80000000) ∧
    0xFF800000 < (0xFF800001#32).toNat ∧ 0xFF800000 < (0xFFFFFFFF#32).toNat := by decide

/-- VoltageByteMeetsTheRationalRule: zero, the largest finite value and both infinities are no NaN. -/
theorem witness_VoltageByteMeetsTheRationalRule :
    ∀ f ∈ ([0x00000000, 0x7F7FFFFF, 0x7F800000, 0xFF800000] : List (BitVec 32)),
      ¬ (ieeeExponent f = 255 ∧ ieeeFraction f ≠ 0) := by simp [ieeeExponent, ieeeFraction]

/-- VoltageByteIsMonotone: from +0 to +infinity. -/
theorem witness_VoltageByteIsMonotone :
    (0x00000000#32).toNat ≤ (0x7F800000#32).toNat ∧ (0x7F800000#32).toNat ≤ 0x7F800000 := by decide

/-- ResultsDoNotDependOnHistory: equal parameters and inputs, different outputs and histories. -/
theorem witness_ResultsDoNotDependOnHistory :
    let s2 : State := { State.reset with out := resetOutputs, draws := 7, results := [.val 3] }
    State.reset.cfg = s2.cfg ∧ State.reset.inp = s2.inp ∧ State.reset.Shows ∧ s2.Shows ∧ State.reset.draws ≠ s2.draws ∧
    ∀ raw, Instr.decode v1 ≠ .remap raw := by
  exact ⟨rfl, rfl, .inl rfl, .inl rfl, by decide, nofun⟩

/-- PathsAreIndependent: two states that agree on one path and differ on the other, their next states, and driven frames. -/
theorem witness_PathsAreIndependent :
    (State.SameDecodePath State.reset { State.reset with inp := { State.reset.inp with telDeviceId := 0xFF } }) ∧
    (State.SameEncodePath State.reset { State.reset with inp := { State.reset.inp with decFrame := v1 } }) ∧
    (∃ t, exec (.validate v1) State.reset = .next t) ∧ (∃ t, exec (.encodeTelemetry 0 0 0 0) State.reset = .next t) ∧
    drivenFrame (.validate v1) =
      some v1 ∧ drivenFrame (.heartbeat 0 0 0 0 0 0) = some #v[0xAA, 0x00, 0x03, 0x00, 0x00, 0x00, 0x00, 0x00, 0x03, 0x55] := by
  refine ⟨⟨⟨rfl, rfl, rfl, rfl⟩, rfl, rfl, rfl, rfl, rfl, rfl⟩, ⟨⟨rfl, rfl, rfl, rfl⟩, rfl, rfl, rfl, rfl, rfl⟩, ⟨_, rfl⟩, ⟨_, rfl⟩,
    rfl, by decide⟩

/-- The default machine with its stand-alone remapper at the centre. -/
def centred : State := { State.reset with remapRaw := 0x64, remapVal := 0 }

/-- It meets the invariant and follows its inputs. -/
theorem centred_inv : centred.Inv :=
  ⟨by decide, by unfold Packet.Fits fitsAxis; decide, by decide, fun _ => by decide, fun h => absurd h (by decide)⟩

theorem centred_follows : centred.Follows := ⟨rfl, rfl⟩

/-- FrameInstructionsKeepTheRest: an instruction of each kind that drives a frame, in a state that meets the invariant. -/
theorem witness_FrameInstructionsKeepTheRest :
    drivenFrame (.decode v1) = some v1 ∧ drivenFrame (.invalid v3) = some v3 ∧
    drivenFrame (.joystick 0x01 0x64 0x00 0xC8 0x00 0x00) = some v1 ∧ centred.Inv ∧ centred.Follows :=
  ⟨rfl, rfl, by decide, centred_inv, centred_follows⟩

theorem witness_EncodeTelemetryKeepsTheRest : centred.Inv ∧ centred.Follows := ⟨centred_inv, centred_follows⟩

/-- ClockEdgeLoadsTheRegisters: a state for each of the three cases. -/
theorem witness_ClockEdgeLoadsTheRegisters :
    (inReset.cfg.outputReg = true ∧ inReset.inp.rst = true) ∧
    (registered.cfg.outputReg = true ∧ registered.inp.rst = false ∧ registered.wasReset = true) ∧
    (cold.cfg.outputReg = true ∧ cold.inp.rst = false ∧ cold.wasReset = false) := by decide

theorem witness_ResetEdgeOverridesTopLevelTransactions :
    inReset.InReset ∧ State.InReset { inReset with wasReset := false } ∧ ∀ raw, Instr.decode v1 ≠ .remap raw :=
  ⟨⟨rfl, rfl⟩, ⟨rfl, rfl⟩, nofun⟩

theorem witness_RegisteredOutputsAreTheCombinationalOnes : State.reset.inp.rst = false ∧ State.reset.wasReset = true := by decide

theorem witness_NoClockAndNoResetWithoutTheRegister : State.reset.cfg.outputReg = false := by decide

/-- OutputsFollowAfterTheSettlingDelay: the delay itself is long enough. Whether a shorter time exists depends on `T_PD`, which has
no value (log 10): it does exactly when `T_PD` is not 0. -/
theorem witness_OutputsFollowAfterTheSettlingDelay :
    State.reset.cfg.outputReg = false ∧ Config.tPd ≤ Config.tPd ∧ (Config.tPd ≠ 0 → 0 < Config.tPd) :=
  ⟨rfl, le_refl _, Nat.pos_of_ne_zero⟩

/-- ChangingInputsLoadAnyValueUnlessInReset: a frame that changes with `rst` held at 1, held at 0 after and before a reset, released in
the window, and without a register. -/
theorem witness_ChangingInputsLoadAnyValueUnlessInReset :
    let x : Inputs := { registered.inp with decFrame := v1 }
    let y : Inputs := { x with rst := true }
    State.reset.cfg.outputReg = false ∧ (inReset.cfg.outputReg = true ∧ inReset.inp.rst = true ∧ y.rst = true) ∧
    (registered.cfg.outputReg = true ∧ registered.inp.rst = false ∧ x.rst = false ∧ registered.wasReset = true) ∧
    (cold.cfg.outputReg = true ∧ cold.inp.rst = false ∧ x.rst = false ∧ cold.wasReset = false) ∧ inReset.inp.rst ≠ x.rst := by
  decide

theorem witness_RegistersHoldBetweenEdges : registered.cfg.outputReg = true := rfl

/-- CleanStepsKeepTheRegistersSound: a reset machine with a register, and a clean edge before it. -/
theorem witness_CleanStepsKeepTheRegistersSound :
    let s : State := { registered with program := [.edge] }
    (∀ x rest, s.program ≠ .edgeWhileChanging x :: rest) ∧ s.cfg.outputReg = true ∧ s.wasReset = true ∧ s.RegistersSound ∧
    ∃ t, step s = .next t :=
  ⟨nofun, rfl, rfl, fun _ _ => .inr ⟨registered.inp, by decide⟩, _, rfl⟩

/-- ChecksumIsTheXorOfBytesOneToSeven: a lopsided bracketing of the seven bytes, out of order. -/
theorem witness_ChecksumIsTheXorOfBytesOneToSeven :
    List.Perm
      (Bracketing.xor (.xor (.xor (.xor (.xor (.xor (.byte 7) (.byte 1)) (.byte 6)) (.byte 2)) (.byte 5)) (.byte 3)) (.byte 4)).leaves
      [1, 2, 3, 4, 5, 6, 7] := by decide

/-- OneResetEdgeAfterPowerUp: `rst` at 0 and at 1 while power is applied, and inputs with `rst` released. -/
theorem witness_OneResetEdgeAfterPowerUp :
    registered.cfg.outputReg = true ∧ (powerUp registered).inp.rst = false ∧ inReset.cfg.outputReg = true ∧
    (powerUp inReset).inp.rst = true ∧ registered.inp.rst = false := ⟨rfl, rfl, rfl, rfl, rfl⟩

/-- StepKeepsTheInvariant: a state that meets the invariant, with a next state. -/
theorem witness_StepKeepsTheInvariant : centred.Inv ∧ ∃ t, step centred = .next t := ⟨centred_inv, _, rfl⟩

theorem witness_ParametersNeverChange : ∃ t, step State.reset = .next t := ⟨_, rfl⟩

end Sys2Proof.Tests
end

/-! ## The form of the axis remapper is not observable (00_scope.md R5, 42_axis_remapper.md R80) -/

namespace Sys2Proof.Machine

/-! ### Both forms drive the same bits -/

/-- The entry of the LUT form for a byte (R80). -/
theorem remapTable_getD (raw : Byte) : remapTable.getD raw.toNat 0 = remapValue raw := by
  have hraw : raw.toNat < 256 := raw.isLt
  simp [remapTable, remapValue, remapClamp, remapOffset, hraw]

/-- The 9-bit subtraction of the linear form is exact for every byte: it never overflows (R80). -/
theorem toInt_zext_sub_remapOffset (b : Byte) : (b.setWidth 9 - remapOffset.setWidth 9).toInt = (b.toNat : Int) - 100 := by
  have hb : b.toNat < 256 := b.isLt
  simp only [remapOffset, BitVec.toInt_eq_toNat_cond]
  bv_omega

/-- The compare and select of the linear form is `min` (R80). -/
theorem toNat_remapClamp_select (raw : Byte) : (if raw > remapClamp then remapClamp else raw).toNat = min raw.toNat 200 := by
  unfold remapClamp
  split
  · bv_omega
  · bv_omega

theorem remapLinear_eq_ofInt (w : Nat) (raw : Byte) : remapLinear w raw = BitVec.ofInt w (remapValue raw) := by
  have hvalue : remapValue raw = ((if raw > remapClamp then remapClamp else raw).toNat : Int) - 100 := by
    rw [toNat_remapClamp_select, Nat.cast_min]
    rfl
  rw [hvalue, ← toInt_zext_sub_remapOffset]
  rfl

theorem remapLut_eq_ofInt (w : Nat) (raw : Byte) : remapLut w raw = BitVec.ofInt w (remapValue raw) :=
  congrArg (BitVec.ofInt w) (remapTable_getD raw)

/-- What the remapper's port holds does not depend on the form: `remapValue` in `AXIS_W`-bit two's complement (R77, R80). -/
theorem remapPort_eq_ofInt (c : Config) (raw : Byte) : remapPort c raw = BitVec.ofInt c.axisW (remapValue raw) := by
  unfold remapPort
  split
  · exact remapLinear_eq_ofInt c.axisW raw
  · exact remapLut_eq_ofInt c.axisW raw

end Sys2Proof.Machine

namespace Sys2Proof

/-- The same parameters with the remapper in the form `r`. -/
def Config.withRemapImpl (c : Config) (r : RemapImpl) : Config := { c with remapImpl := r }

end Sys2Proof

namespace Sys2Proof.Machine

/-- The same state with the remapper in the form `r`. -/
def State.withRemapImpl (s : State) (r : RemapImpl) : State := { s with cfg := s.cfg.withRemapImpl r }

/-! ### No function of the parameters reads the form -/

section OfConfig
variable (c : Config) (r : RemapImpl) (f : Frame)

@[simp] theorem remappedOperand_withRemapImpl (b : Byte) : remappedOperand (c.withRemapImpl r) b = remappedOperand c b := by
  unfold remappedOperand
  rw [remapPort_eq_ofInt, remapPort_eq_ofInt]
  rfl

@[simp] theorem packetJoystick_withRemapImpl : packetJoystick (c.withRemapImpl r) f = packetJoystick c f := by
  simp [packetJoystick]

@[simp] theorem packetButton_withRemapImpl : packetButton (c.withRemapImpl r) f = packetButton c f := rfl

@[simp] theorem packetServoZ_withRemapImpl : packetServoZ (c.withRemapImpl r) f = packetServoZ c f := by
  simp [packetServoZ]

@[simp] theorem packetOfCommand_withRemapImpl : packetOfCommand (c.withRemapImpl r) f = packetOfCommand c f := by
  simp [packetOfCommand]

@[simp] theorem decodePacket_withRemapImpl : decodePacket (c.withRemapImpl r) f = decodePacket c f := by
  simp [decodePacket]

end OfConfig

/-! ### Every operation of an instruction commutes with the change of form -/

section OfState
variable (s : State) (r : RemapImpl)

@[simp] theorem withRemapImpl_cfg : (s.withRemapImpl r).cfg = s.cfg.withRemapImpl r := rfl

@[simp] theorem withRemapImpl_inp : (s.withRemapImpl r).inp = s.inp := rfl

@[simp] theorem withRemapImpl_out : (s.withRemapImpl r).out = s.out := rfl

@[simp] theorem withRemapImpl_remapVal : (s.withRemapImpl r).remapVal = s.remapVal := rfl

@[simp] theorem record_withRemapImpl (x : Reading) : record x (s.withRemapImpl r) = (record x s).withRemapImpl r := rfl

@[simp] theorem driveTelemetry_withRemapImpl (dev : Byte) (voltage : BitVec 32) (flags : Byte) (cnt : BitVec 32) :
    driveTelemetry dev voltage flags cnt (s.withRemapImpl r) = (driveTelemetry dev voltage flags cnt s).withRemapImpl r := rfl

@[simp] theorem driveRemapper_withRemapImpl (raw : Byte) :
    driveRemapper raw (s.withRemapImpl r) = (driveRemapper raw s).withRemapImpl r := by
  unfold driveRemapper
  rw [withRemapImpl_cfg, remappedOperand_withRemapImpl]
  rfl

/-- The output stage does not read the form in any of its three cases: it shows the packet, resets, or draws. -/
@[simp] theorem evaluate_withRemapImpl (p : Packet) :
    evaluate p (s.withRemapImpl r) = (evaluate p s).withRemapImpl r := by
  rcases publish_cases (outputsWith s.cfg s.inp p) s with ⟨hshows, _⟩ | ⟨hreset, _⟩ | ⟨hreg, hrst, hwas, _⟩
  · rw [evaluate_of_shows p hshows, evaluate_of_shows (s := s.withRemapImpl r) p hshows]
    rfl
  · rw [evaluate_of_inReset p hreset, evaluate_of_inReset (s := s.withRemapImpl r) p hreset]
    rfl
  · rw [evaluate_of_unreset p hreg hrst hwas, evaluate_of_unreset (s := s.withRemapImpl r) p hreg hrst hwas]
    rfl

@[simp] theorem evaluateFrame_withRemapImpl (f : Frame) (p : Packet) :
    evaluateFrame f p (s.withRemapImpl r) = (evaluateFrame f p s).withRemapImpl r :=
  evaluate_withRemapImpl (driveFrame f s) r p

end OfState

/-- Settles O31: every arm of `exec` drives, evaluates and reads, and each of these commutes with the change of form. -/
theorem remapFormIsNotObservable : Obligations.RemapFormIsNotObservable := by
  intro i s r
  change ∃ t, exec i s = .next t ∧ exec i (s.withRemapImpl r) = .next (t.withRemapImpl r)
  cases i with
  | joystick => exact ⟨_, rfl, by simp [exec, execJoystick]⟩
  | button => exact ⟨_, rfl, by simp [exec, execButton]⟩
  | heartbeat => exact ⟨_, rfl, by simp [exec, execHeartbeat]⟩
  | estop => exact ⟨_, rfl, by simp [exec, execEstop]⟩
  | announceCapabilities => exact ⟨_, rfl, by simp [exec, execAnnounceCapabilities]⟩
  | servoZ => exact ⟨_, rfl, by simp [exec, execServoZ]⟩
  | telemetry => exact ⟨_, rfl, by simp [exec, execTelemetry]⟩
  | other => exact ⟨_, rfl, by simp [exec, execOther]⟩
  | invalid => exact ⟨_, rfl, by simp [exec, execInvalid]⟩
  | validate => exact ⟨_, rfl, by simp [exec, execValidate]⟩
  | checksum => exact ⟨_, rfl, by simp [exec, execChecksum]⟩
  | decode => exact ⟨_, rfl, by simp [exec, execDecode]⟩
  | remap => exact ⟨_, rfl, by simp [exec, execRemap]⟩
  | encodeTelemetry => exact ⟨_, rfl, by simp [exec, execEncodeTelemetry]⟩

end Sys2Proof.Machine

/-! ## The packet of a frame: its arms, the values of its fields (R20), and the netlist's form of it (R75) -/

namespace Sys2Proof.Machine

section PacketArms
variable (c : Config) (f : Frame)

/-- The arms of a valid frame fall into four: the three that populate fields, and the rest, which set `valid` and `cmd` alone
(R65, R67 to R74). -/
theorem packetOfCommand_cases :
    (f.read 2 = codeJoystick ∧ packetOfCommand c f = packetJoystick c f) ∨
    (f.read 2 = codeButton ∧ packetOfCommand c f = packetButton c f) ∨
    (f.read 2 = codeServoZ ∧ packetOfCommand c f = packetServoZ c f) ∨
    (f.read 2 ≠ codeJoystick ∧ f.read 2 ≠ codeButton ∧ f.read 2 ≠ codeServoZ ∧ packetOfCommand c f = packetOfValid f) := by
  by_cases hjoy : f.read 2 = codeJoystick
  · exact .inl ⟨hjoy, if_pos hjoy⟩
  by_cases hbtn : f.read 2 = codeButton
  · exact .inr (.inl ⟨hbtn, by simp [packetOfCommand, hbtn, codeJoystick, codeButton]⟩)
  by_cases hsrv : f.read 2 = codeServoZ
  · exact .inr (.inr (.inl ⟨hsrv, by
      simp [packetOfCommand, hsrv, codeJoystick, codeButton, codeHeartbeat, codeEstop, codeAnnounceCapabilities, codeServoZ]⟩))
  · refine .inr (.inr (.inr ⟨hjoy, hbtn, hsrv, ?_⟩))
    simp [packetOfCommand, hjoy, hbtn, hsrv, packetHeartbeat, packetEstop, packetAnnounceCapabilities, packetTelemetry, packetOther]

theorem decodePacket_of_valid {f : Frame} (h : frameValid f = true) : decodePacket c f = packetOfCommand c f := if_pos h

theorem decodePacket_of_invalid {f : Frame} (h : frameValid f = false) : decodePacket c f = packetInvalid := by
  simp [decodePacket, h]

end PacketArms

/-! ### The values of the operands at a legal width -/

theorem remapValue_bounds (b : Byte) : -100 ≤ remapValue b ∧ remapValue b ≤ 100 := by
  unfold remapValue
  omega

/-- A signed port of a legal width holds every value of nine bits (00_scope.md section 4, D4). -/
theorem two_pow_eight_le_of_legal {c : Config} (h : c.legal = true) : 2 ^ 8 ≤ 2 ^ (c.axisW - 1) := by
  have hw : 9 ≤ c.axisW := of_decide_eq_true h
  exact Nat.pow_le_pow_right (by decide) (by omega)

section Operands
variable {c : Config} (h : c.legal = true) (b : Byte)
include h

/-- A remapped operand is `min(raw, 200) − 100` (R45, R77). -/
theorem remappedOperand_eq_remapValue : remappedOperand c b = remapValue b := by
  have hpow : (2 ^ 8 : Int) ≤ 2 ^ (c.axisW - 1) := mod_cast two_pow_eight_le_of_legal h
  have hw : 9 ≤ c.axisW := of_decide_eq_true h
  obtain ⟨hlo, hhi⟩ := remapValue_bounds b
  unfold remappedOperand
  rw [remapPort_eq_ofInt, BitVec.toInt_ofInt_eq_self (by omega) (by omega) (by omega)]

theorem remappedOperand_bounds : -100 ≤ remappedOperand c b ∧ remappedOperand c b ≤ 100 := by
  rw [remappedOperand_eq_remapValue h]
  exact remapValue_bounds b

/-- A raw operand is never negative: its byte is below the sign bit (R44). -/
theorem rawOperand_eq_toNat : rawOperand c b = b.toNat := by
  have hw : 9 ≤ c.axisW := of_decide_eq_true h
  have hpow : 2 ^ 9 ≤ 2 ^ c.axisW := Nat.pow_le_pow_right (by decide) hw
  have hb : b.toNat < 2 ^ 8 := b.isLt
  have hset : (b.setWidth c.axisW).toNat = b.toNat := BitVec.toNat_setWidth_of_le (by omega)
  unfold rawOperand
  rw [BitVec.toInt_eq_toNat_of_lt (by omega), hset]

theorem rawOperand_bounds : 0 ≤ rawOperand c b ∧ rawOperand c b ≤ 255 := by
  rw [rawOperand_eq_toNat h]
  have hb : b.toNat < 2 ^ 8 := b.isLt
  omega

end Operands

/-- Settles O26: the three arms that populate fields take them from bounded operands, and every other field is 0. -/
theorem packetValueRanges : Obligations.PacketValueRanges := by
  intro c f hlegal
  have hremap := remappedOperand_bounds hlegal
  have hraw := rawOperand_bounds hlegal
  cases hvalid : frameValid f with
  | false =>
    rw [decodePacket_of_invalid c hvalid]
    simp [packetInvalid, blankPacket]
  | true =>
    rw [decodePacket_of_valid c hvalid]
    rcases packetOfCommand_cases c f with ⟨hcmd, e⟩ | ⟨hcmd, e⟩ | ⟨hcmd, e⟩ | ⟨hjoy, hbtn, _, e⟩
    · simp [e, packetJoystick, packetOfValid, packetInvalid, cmdOperand, hcmd, codeJoystick, hremap]
    · simp [e, packetButton, packetOfValid, packetInvalid, cmdOperand, hcmd, codeButton, hraw]
    · simp [e, packetServoZ, packetOfValid, packetInvalid, cmdOperand, hcmd, codeServoZ, hremap]
    · simp [e, packetOfValid, packetInvalid]

/-! ### The netlist (R17, R18) -/

/-- The balanced XOR tree is the XOR-reduction in the rule's order (R57). -/
theorem netChecksumValidator_eq (b1 b2 b3 b4 b5 b6 b7 b8 : Byte) :
    netChecksumValidator b1 b2 b3 b4 b5 b6 b7 b8 = (xorTree b1 b2 b3 b4 b5 b6 b7, b8 == xorTree b1 b2 b3 b4 b5 b6 b7) := by
  simp [netChecksumValidator, xorTree, BitVec.xor_assoc]

/-- The gated multiplexers give the packet of DECODE: the select lines of the three populating arms are never high together, and
`valid` gates them all (R75). -/
theorem netCommandDispatcher_eq_decodePacket (c : Config) (f : Frame) :
    netCommandDispatcher c.axisW (frameValid f) (f.read 2) (f.read 3) (f.read 4) (f.read 5) (f.read 6) (f.read 7)
      (remapPort c (f.read 3)) (remapPort c (f.read 4)) (remapPort c (f.read 5)) (remapPort c (f.read 6)) =
    decodePacket c f := by
  cases hvalid : frameValid f with
  | false => simp [decodePacket_of_invalid c hvalid, netCommandDispatcher, packetInvalid]
  | true =>
    rw [decodePacket_of_valid c hvalid]
    rcases packetOfCommand_cases c f with ⟨hcmd, e⟩ | ⟨hcmd, e⟩ | ⟨hcmd, e⟩ | ⟨hjoy, hbtn, hsrv, e⟩
    · simp [e, netCommandDispatcher, hcmd, codeJoystick, codeServoZ, packetJoystick, packetOfValid, packetInvalid,
        cmdOperand, auxOperand, remappedOperand]
    · simp [e, netCommandDispatcher, hcmd, codeJoystick, codeButton, codeServoZ, packetButton, packetOfValid, packetInvalid,
        cmdOperand, auxOperand, rawOperand]
    · simp [e, netCommandDispatcher, hcmd, codeJoystick, codeButton, codeServoZ, packetServoZ, packetOfValid, packetInvalid,
        cmdOperand, remappedOperand]
    · simp [e, netCommandDispatcher, hjoy, hbtn, hsrv, packetOfValid, packetInvalid, cmdOperand]

/-- `telemetry_encoder`, with a checksum validator of its own, writes the frame of ENCODE_TELEMETRY (R81, R92). -/
theorem netTelemetryEncoder_eq_telemetryFrame (c : Config) (dev : Byte) (voltage : BitVec 32) (flags : Byte) (cnt : BitVec 32) :
    netTelemetryEncoder c dev voltage flags cnt = telemetryFrame c dev voltage flags cnt := by
  simp only [netTelemetryEncoder, netChecksumValidator_eq, BitVec.setWidth_eq_extractLsb' (show 8 ≤ 32 by decide)]
  rfl

/-- Settles O25: each sub-block drives what the rules of its operation give. -/
theorem netlistMeetsTheRules : Obligations.NetlistMeetsTheRules := by
  intro c x
  unfold netTop
  simp only [netChecksumValidator_eq, netTelemetryEncoder_eq_telemetryFrame]
  rw [outputsOf, ← netCommandDispatcher_eq_decodePacket]
  rfl

end Sys2Proof.Machine

/-! ## Transactions: what an instruction drives, evaluates and reads (R52, R112) -/

namespace Sys2Proof.Machine

/-- The input ports after an instruction has driven its own (R52). REMAP drives none of them (log 7). -/
def drivenInputs (i : Instr) (x : Inputs) : Inputs :=
  match i with
  | .encodeTelemetry dev voltage flags cnt =>
    { x with telDeviceId := dev, telVoltage := voltage, telStatusFlags := flags, telPacketsReceived := cnt }
  | i => { x with decFrame := (drivenFrame i).getD x.decFrame }

/-- What an instruction other than REMAP reads from the output ports (R52). -/
def readingOf (i : Instr) (o : Outputs) : Reading :=
  match i with
  | .validate _ => .valid o.pkt.valid
  | .checksum _ => .chk o.chk
  | .encodeTelemetry _ _ _ _ => .frame o.telFrame
  | _ => .packet o.pkt

/-- The inputs `x` on the ports, not yet settled (R114). -/
def drivePorts (x : Inputs) (s : State) : State := { s with inp := x, settling := .settling 0 }

/-- One evaluation of the inputs that stand on the ports. -/
def evaluateInputs (s : State) : State := evaluate (decodePacket s.cfg s.inp.decFrame) s

/-- A transaction on the top level: drive, evaluate, read (R52). -/
def transact (i : Instr) (s : State) : State :=
  record (readingOf i (evaluateInputs (drivePorts (drivenInputs i s.inp) s)).out)
    (evaluateInputs (drivePorts (drivenInputs i s.inp) s))

/-! ### What the instructions drive -/

theorem drivenInputs_of_drivenFrame {i : Instr} {f : Frame} (h : drivenFrame i = some f) (x : Inputs) :
    drivenInputs i x = { x with decFrame := f } := by
  cases i with
  | encodeTelemetry => cases h
  | _ => simp [drivenInputs, h]

/-- No instruction drives `rst`, and none reads it to choose what it drives (R15). -/
theorem drivenInputs_with_rst (i : Instr) (x : Inputs) (b : Bool) :
    drivenInputs i { x with rst := b } = { drivenInputs i x with rst := b } := by
  cases i <;> rfl

@[simp] theorem drivenInputs_rst (i : Instr) (x : Inputs) : (drivenInputs i x).rst = x.rst := by
  cases i <;> rfl

/-! ### Every instruction but REMAP is a transaction on the top level -/

theorem frameValid_mkFrame (dev cmd p0 p1 p2 p3 p4 : Byte) : frameValid (mkFrame dev cmd p0 p1 p2 p3 p4) = true := by
  simp [frameValid_iff]

/-- A made frame is valid, so DECODE takes the arm of its command byte (R63). -/
@[simp] theorem decodePacket_mkFrame (c : Config) (dev cmd p0 p1 p2 p3 p4 : Byte) :
    decodePacket c (mkFrame dev cmd p0 p1 p2 p3 p4) = packetOfCommand c (mkFrame dev cmd p0 p1 p2 p3 p4) :=
  decodePacket_of_valid c (frameValid_mkFrame dev cmd p0 p1 p2 p3 p4)

/-- A code of the OTHER arm selects that arm (R74). -/
theorem packetOfCommand_of_isOtherCode (c : Config) {f : Frame} (h : isOtherCode (f.read 2) = true) :
    packetOfCommand c f = packetOther f := by
  simp only [isOtherCode, assignedCodes, Bool.not_eq_true', List.contains_eq_mem, decide_eq_false_iff_not, List.mem_cons,
    List.not_mem_nil, or_false, not_or] at h
  obtain ⟨hjoy, hbtn, hbeat, hestop, hann, hsrv, htel⟩ := h
  simp [packetOfCommand, hjoy, hbtn, hbeat, hestop, hann, hsrv, htel]

/-- An arm that evaluates the packet of DECODE on the frame it drives, and reads, is a transaction. -/
theorem exec_eq_transact_of_arm {i : Instr} {f : Frame} {p : Packet} {s : State} (hframe : drivenFrame i = some f)
    (harm : exec i s = .next (record (readingOf i (evaluateFrame f p s).out) (evaluateFrame f p s)))
    (hpacket : decodePacket s.cfg f = p) : exec i s = .next (transact i s) := by
  subst hpacket
  rw [harm]
  unfold transact
  rw [drivenInputs_of_drivenFrame hframe]
  rfl

theorem exec_eq_transact {i : Instr} (hi : ∀ raw, i ≠ .remap raw) (s : State) : exec i s = .next (transact i s) := by
  cases i with
  | joystick => exact exec_eq_transact_of_arm rfl rfl (by simp [packetOfCommand])
  | button => exact exec_eq_transact_of_arm rfl rfl (by simp [packetOfCommand, codeJoystick, codeButton])
  | heartbeat => exact exec_eq_transact_of_arm rfl rfl (by simp [packetOfCommand, codeJoystick, codeButton, codeHeartbeat])
  | estop =>
    exact exec_eq_transact_of_arm rfl rfl (by simp [packetOfCommand, codeJoystick, codeButton, codeHeartbeat, codeEstop])
  | announceCapabilities =>
    exact exec_eq_transact_of_arm rfl rfl
      (by simp [packetOfCommand, codeJoystick, codeButton, codeHeartbeat, codeEstop, codeAnnounceCapabilities])
  | servoZ =>
    exact exec_eq_transact_of_arm rfl rfl
      (by simp [packetOfCommand, codeJoystick, codeButton, codeHeartbeat, codeEstop, codeAnnounceCapabilities, codeServoZ])
  | telemetry =>
    exact exec_eq_transact_of_arm rfl rfl
      (by simp [packetOfCommand, codeJoystick, codeButton, codeHeartbeat, codeEstop, codeAnnounceCapabilities, codeServoZ,
        codeTelemetry])
  | other dev cmd p0 p1 p2 p3 p4 =>
    refine exec_eq_transact_of_arm rfl rfl ?_
    cases hcmd : isOtherCode cmd with
    | true => simp [packetOfCommand_of_isOtherCode s.cfg (f := mkFrame dev cmd p0 p1 p2 p3 p4) hcmd]
    | false => simp
  | invalid => exact exec_eq_transact_of_arm rfl rfl rfl
  | validate => exact exec_eq_transact_of_arm rfl rfl rfl
  | checksum => exact exec_eq_transact_of_arm rfl rfl rfl
  | decode => exact exec_eq_transact_of_arm rfl rfl rfl
  | remap raw => exact absurd rfl (hi raw)
  | encodeTelemetry => rfl

/-- REMAP is the one instruction that stands apart from the top level (R17, R52). -/
theorem remap_or_ne_remap (i : Instr) : (∃ raw, i = .remap raw) ∨ ∀ raw, i ≠ .remap raw := by
  cases i with
  | remap raw => exact .inl ⟨raw, rfl⟩
  | _ => exact .inr nofun

/-- Everything an instruction can do: REMAP drives and reads the stand-alone remapper, any other is a transaction on the top
level. -/
theorem exec_cases {i : Instr} {s t : State} (h : exec i s = .next t) :
    (∃ raw, i = .remap raw ∧ t = readVal (driveRemapper raw s)) ∨ ((∀ raw, i ≠ .remap raw) ∧ t = transact i s) := by
  rcases remap_or_ne_remap i with ⟨raw, rfl⟩ | hi
  · cases h
    exact .inl ⟨raw, rfl, rfl⟩
  · rw [exec_eq_transact hi] at h
    cases h
    exact .inr ⟨hi, rfl⟩

/-! ### What a transaction leaves -/

/-- Everything an evaluation of the standing inputs can do: show their function (R22, R24), load the reset values (R23), or leave
any value (R111). -/
theorem evaluateInputs_cases (s : State) :
    (s.Shows ∧ evaluateInputs s = { s with out := outputsOf s.cfg s.inp, settling := .settled }) ∨
    (s.InReset ∧ evaluateInputs s = { s with out := resetOutputs, wasReset := true, settling := .settled }) ∨
    (s.cfg.outputReg = true ∧ s.inp.rst = false ∧ s.wasReset = false ∧
      evaluateInputs s = { drawOutputs s with settling := .settled }) := by
  rcases publish_cases (outputsOf s.cfg s.inp) s with ⟨hshows, _⟩ | ⟨hreset, _⟩ | ⟨hreg, hrst, hwas, _⟩
  · exact .inl ⟨hshows, evaluate_of_shows _ hshows⟩
  · exact .inr (.inl ⟨hreset, evaluate_of_inReset _ hreset⟩)
  · exact .inr (.inr ⟨hreg, hrst, hwas, evaluate_of_unreset _ hreg hrst hwas⟩)

theorem transact_of_shows (i : Instr) {s : State} (h : s.Shows) :
    transact i s =
      { s with
        inp := drivenInputs i s.inp
        out := outputsOf s.cfg (drivenInputs i s.inp)
        settling := .settled
        results := s.results ++ [readingOf i (outputsOf s.cfg (drivenInputs i s.inp))] } := by
  have hdriven : (drivePorts (drivenInputs i s.inp) s).Shows := by
    simpa [State.Shows, drivePorts] using h
  unfold transact evaluateInputs
  rw [evaluate_of_shows _ hdriven]
  rfl

theorem transact_of_inReset (i : Instr) {s : State} (h : s.InReset) :
    (transact i s).out = resetOutputs ∧ (transact i s).wasReset = true := by
  have hdriven : (drivePorts (drivenInputs i s.inp) s).InReset := by
    simpa [State.InReset, drivePorts] using h
  unfold transact evaluateInputs
  rw [evaluate_of_inReset _ hdriven]
  exact ⟨rfl, rfl⟩

@[simp] theorem transact_cfg (i : Instr) (s : State) : (transact i s).cfg = s.cfg := by
  simp [transact, evaluateInputs, drivePorts]

/-- Settles O47: a transaction at a reset edge leaves the reset values, whatever it drove. -/
theorem resetEdgeOverridesTopLevelTransactions : Obligations.ResetEdgeOverridesTopLevelTransactions := by
  intro i s hreset hi
  obtain ⟨hout, hwas⟩ := transact_of_inReset i hreset
  exact ⟨_, exec_eq_transact hi s, hwas, hout⟩

/-- Settles O42: a transaction that shows its result is a function of the parameters and the inputs. -/
theorem resultsDoNotDependOnHistory : Obligations.ResultsDoNotDependOnHistory := by
  intro i s1 s2 hcfg hinp hshows1 hshows2
  rcases remap_or_ne_remap i with ⟨raw, rfl⟩ | hi
  · exact ⟨_, _, .val (remappedOperand s1.cfg raw), rfl, rfl, hinp, rfl, by rw [hcfg]; rfl, fun h => absurd rfl (h raw)⟩
  · refine ⟨_, _, readingOf i (outputsOf s2.cfg (drivenInputs i s2.inp)), exec_eq_transact hi s1, exec_eq_transact hi s2, ?_⟩
    rw [transact_of_shows i hshows1, transact_of_shows i hshows2, hcfg, hinp]
    exact ⟨rfl, rfl, rfl, fun _ => ⟨rfl, rfl⟩⟩

/-- The same state with `OUTPUT_REG` = `b`. -/
def State.withOutputReg (s : State) (b : Bool) : State := { s with cfg := { s.cfg with outputReg := b } }

/-- Settles O48: once reset, both forms of the output stage show the same function, and it does not read `OUTPUT_REG`. -/
theorem registeredOutputsAreTheCombinationalOnes : Obligations.RegisteredOutputsAreTheCombinationalOnes := by
  intro i s hrst hwas
  have hcomb : (s.withOutputReg false).Shows := .inl rfl
  have hreg : (s.withOutputReg true).Shows := .inr ⟨hrst, hwas⟩
  rcases remap_or_ne_remap i with ⟨raw, rfl⟩ | hi
  · exact ⟨_, _, rfl, rfl, rfl, rfl⟩
  · refine ⟨_, _, exec_eq_transact hi (s.withOutputReg false), exec_eq_transact hi (s.withOutputReg true), ?_⟩
    rw [transact_of_shows i hcomb, transact_of_shows i hreg]
    exact ⟨rfl, rfl⟩

/-- The same state with `rst` at `b`. -/
def State.withRst (s : State) (b : Bool) : State := { s with inp := { s.inp with rst := b } }

/-- Without the register a transaction does not read `rst` (R15, R24). -/
theorem transact_withRst (i : Instr) {s : State} (b : Bool) (hreg : s.cfg.outputReg = false) :
    transact i (s.withRst b) = (transact i s).withRst b := by
  have hshows : (s.withRst b).Shows := .inl hreg
  have hdriven : drivenInputs i (s.withRst b).inp = { drivenInputs i s.inp with rst := b } := drivenInputs_with_rst i s.inp b
  rw [transact_of_shows i hshows, transact_of_shows i (.inl hreg), hdriven]
  rfl

/-- Settles O49: there is no edge to take, and the function that is shown does not read `rst`. -/
theorem noClockAndNoResetWithoutTheRegister : Obligations.NoClockAndNoResetWithoutTheRegister := by
  intro s i b hreg
  refine ⟨by simp [clockEdge, hreg], ?_⟩
  rcases remap_or_ne_remap i with ⟨raw, rfl⟩ | hi
  · exact ⟨_, rfl, rfl⟩
  · exact ⟨_, exec_eq_transact hi s, (exec_eq_transact hi (s.withRst b)).trans (congrArg _ (transact_withRst i b hreg))⟩

/-! ### The two paths (R16) -/

/-- The output ports of the decode path (R13). -/
def Outputs.decodePart (o : Outputs) : Packet × Bool × Bool × Bool × Byte := (o.pkt, o.startOk, o.endOk, o.chkOk, o.chk)

/-- The input ports of the encode path (R14). -/
def Inputs.encodePart (x : Inputs) : Byte × BitVec 32 × Byte × BitVec 32 :=
  (x.telDeviceId, x.telVoltage, x.telStatusFlags, x.telPacketsReceived)

theorem sameDecodePath_iff (s t : State) :
    s.SameDecodePath t ↔ s.SameStage t ∧ s.inp.decFrame = t.inp.decFrame ∧ s.out.decodePart = t.out.decodePart := by
  simp [State.SameDecodePath, Outputs.decodePart]

theorem sameEncodePath_iff (s t : State) :
    s.SameEncodePath t ↔ s.SameStage t ∧ s.inp.encodePart = t.inp.encodePart ∧ s.out.telFrame = t.out.telFrame := by
  simp [State.SameEncodePath, Inputs.encodePart, and_assoc]

/-- The output stage mixes no ports: on states that agree on what it reads, a part `π` of the outputs is decided by that part of
the function value alone. -/
theorem publish_congr {α : Type} (π : Outputs → α) {s t : State} {o o' : Outputs} (hstage : s.SameStage t) (ho : π o = π o') :
    (publish o s).SameStage (publish o' t) ∧ π (publish o s).out = π (publish o' t).out := by
  obtain ⟨hcfg, hrst, hwas, hdraws⟩ := hstage
  unfold publish registerEdge State.SameStage
  rw [← hcfg, ← hrst, ← hwas]
  split_ifs <;> simp [hcfg, hrst, hwas, hdraws, ho]

theorem transact_congr {α : Type} (π : Outputs → α) {s t : State} (i j : Instr) (hstage : s.SameStage t)
    (ho : π (outputsOf s.cfg (drivenInputs i s.inp)) = π (outputsOf s.cfg (drivenInputs j t.inp))) :
    (transact i s).SameStage (transact j t) ∧ π (transact i s).out = π (transact j t).out := by
  obtain ⟨hcfg, hrst, hwas, hdraws⟩ := hstage
  have hdriven : (drivePorts (drivenInputs i s.inp) s).SameStage (drivePorts (drivenInputs j t.inp) t) :=
    ⟨hcfg, by simpa [drivePorts] using hrst, hwas, hdraws⟩
  exact publish_congr π hdriven (hcfg ▸ ho)

@[simp] theorem transact_inp (i : Instr) (s : State) : (transact i s).inp = drivenInputs i s.inp := by
  simp [transact, evaluateInputs, drivePorts]

/-- The decode path after a transaction is decided by the output stage and the frame then on `dec_frame`. -/
theorem transact_sameDecodePath {s t : State} {i j : Instr} (hstage : s.SameStage t)
    (hframe : (drivenInputs i s.inp).decFrame = (drivenInputs j t.inp).decFrame) :
    (transact i s).SameDecodePath (transact j t) := by
  obtain ⟨hstage', hout⟩ := transact_congr Outputs.decodePart i j hstage
    (by simp [Outputs.decodePart, outputsOf, outputsWith, hframe])
  rw [sameDecodePath_iff, transact_inp, transact_inp]
  exact ⟨hstage', hframe, hout⟩

/-- The encode path after a transaction is decided by the output stage and the values then on the `tel_*` ports. -/
theorem transact_sameEncodePath {s t : State} {i j : Instr} (hstage : s.SameStage t)
    (hports : (drivenInputs i s.inp).encodePart = (drivenInputs j t.inp).encodePart) :
    (transact i s).SameEncodePath (transact j t) := by
  obtain ⟨hdev, hvolt, hflags, hcnt⟩ := by simpa only [Inputs.encodePart, Prod.mk.injEq] using hports
  obtain ⟨hstage', hout⟩ := transact_congr Outputs.telFrame i j hstage
    (by simp [outputsOf, outputsWith, hdev, hvolt, hflags, hcnt])
  rw [sameEncodePath_iff, transact_inp, transact_inp]
  exact ⟨hstage', hports, hout⟩

theorem drivenInputs_decFrame_congr (i : Instr) {x y : Inputs} (h : x.decFrame = y.decFrame) :
    (drivenInputs i x).decFrame = (drivenInputs i y).decFrame := by
  cases i with
  | encodeTelemetry => exact h
  | _ => simp [drivenInputs, h]

theorem drivenInputs_encodePart_congr (i : Instr) {x y : Inputs} (h : x.encodePart = y.encodePart) :
    (drivenInputs i x).encodePart = (drivenInputs i y).encodePart := by
  cases i with
  | encodeTelemetry => rfl
  | _ => exact h

theorem drivenInputs_encodePart_of_drivenFrame {i : Instr} {f : Frame} (h : drivenFrame i = some f) (x : Inputs) :
    (drivenInputs i x).encodePart = x.encodePart := by
  rw [drivenInputs_of_drivenFrame h]
  rfl

theorem ne_remap_of_drivenFrame {i : Instr} {f : Frame} (h : drivenFrame i = some f) (raw : Byte) : i ≠ .remap raw := by
  rintro rfl
  cases h

/-- REMAP reaches neither path (R17; log 7). -/
theorem remap_sameDecodePath {s t : State} (raw : Byte) (h : s.SameDecodePath t) :
    (readVal (driveRemapper raw s)).SameDecodePath (readVal (driveRemapper raw t)) := h

theorem remap_sameEncodePath {s t : State} (raw : Byte) (h : s.SameEncodePath t) :
    (readVal (driveRemapper raw s)).SameEncodePath (readVal (driveRemapper raw t)) := h

theorem exec_sameDecodePath {i : Instr} {s1 s2 t1 t2 : State} (hsame : s1.SameDecodePath s2) (h1 : exec i s1 = .next t1)
    (h2 : exec i s2 = .next t2) : t1.SameDecodePath t2 := by
  rcases remap_or_ne_remap i with ⟨raw, rfl⟩ | hi
  · cases h1
    cases h2
    exact remap_sameDecodePath raw hsame
  · rw [exec_eq_transact hi] at h1 h2
    cases h1
    cases h2
    obtain ⟨hstage, hframe, _⟩ := hsame
    exact transact_sameDecodePath hstage (drivenInputs_decFrame_congr i hframe)

theorem exec_sameEncodePath {i : Instr} {s1 s2 t1 t2 : State} (hsame : s1.SameEncodePath s2) (h1 : exec i s1 = .next t1)
    (h2 : exec i s2 = .next t2) : t1.SameEncodePath t2 := by
  rcases remap_or_ne_remap i with ⟨raw, rfl⟩ | hi
  · cases h1
    cases h2
    exact remap_sameEncodePath raw hsame
  · rw [exec_eq_transact hi] at h1 h2
    cases h1
    cases h2
    obtain ⟨hstage, hports, _⟩ := (sameEncodePath_iff s1 s2).1 hsame
    exact transact_sameEncodePath hstage (drivenInputs_encodePart_congr i hports)

/-- Settles O43: the same instruction by the congruence of each path, different ones by what they drive on it. -/
theorem pathsAreIndependent : Obligations.PathsAreIndependent := by
  refine ⟨fun _ _ _ _ _ => exec_sameDecodePath, fun _ _ _ _ _ => exec_sameEncodePath, ?_, ?_⟩
  · intro d1 d2 v1 v2 f1 f2 n1 n2 s1 s2 t1 t2 hsame h1 h2
    rw [exec_eq_transact (by simp)] at h1 h2
    cases h1
    cases h2
    obtain ⟨hstage, hframe, _⟩ := hsame
    exact transact_sameDecodePath hstage hframe
  · intro i1 i2 f1 f2 s1 s2 t1 t2 hf1 hf2 hsame h1 h2
    rw [exec_eq_transact (ne_remap_of_drivenFrame hf1)] at h1
    rw [exec_eq_transact (ne_remap_of_drivenFrame hf2)] at h2
    cases h1
    cases h2
    obtain ⟨hstage, hports, _⟩ := (sameEncodePath_iff s1 s2).1 hsame
    refine transact_sameEncodePath hstage ?_
    rw [drivenInputs_encodePart_of_drivenFrame hf1, drivenInputs_encodePart_of_drivenFrame hf2, hports]

end Sys2Proof.Machine

/-! ## What every step keeps (R11, R13, R20, R22 to R24, R111, R114, R115) -/

namespace Sys2Proof.Machine

/-! ### What a step can do -/

/-- What one step can do, but for an edge inside whose window the inputs change (R113; log 1). -/
inductive CleanMove (s : State) : State → Prop where
  | transact (i : Instr) : CleanMove s (transact i s)
  | remap (raw : Byte) : CleanMove s (readVal (driveRemapper raw s))
  | drive (x : Inputs) : CleanMove s (driveInputs x s)
  | elapse (n : Nat) : CleanMove s (elapse n s)
  | edge : CleanMove s (clockEdge s)
  | powerUp : CleanMove s (powerUp s)

theorem cleanMove_of_exec {i : Instr} {s t : State} (h : exec i s = .next t) : CleanMove s t := by
  rcases exec_cases h with ⟨raw, _, rfl⟩ | ⟨_, rfl⟩
  · exact .remap raw
  · exact .transact i

/-- The same state with the acts `rest` still to come (log 1). -/
def State.withProgram (s : State) (rest : List Stimulus) : State := { s with program := rest }

/-- Everything a step can do. -/
theorem step_cases {s t : State} (h : step s = .next t) :
    ∃ rest, CleanMove (s.withProgram rest) t ∨
      ∃ x, s.program = .edgeWhileChanging x :: rest ∧ t = clockEdgeWhileChanging x (s.withProgram rest) := by
  unfold step at h
  split at h
  next => exact ⟨s.program, .inl (cleanMove_of_exec h)⟩
  next i rest _ => exact ⟨rest, .inl (cleanMove_of_exec h)⟩
  next x rest _ => cases h; exact ⟨rest, .inl (.drive x)⟩
  next n rest _ => cases h; exact ⟨rest, .inl (.elapse n)⟩
  next rest _ => cases h; exact ⟨rest, .inl .edge⟩
  next x rest hprogram => cases h; exact ⟨rest, .inr ⟨x, hprogram, rfl⟩⟩
  next rest _ => cases h; exact ⟨rest, .inl .powerUp⟩

/-! ### The parameters (R11) -/

@[simp] theorem showOutputs_cfg (s : State) : (showOutputs s).cfg = s.cfg := by
  rcases showOutputs_cases s with ⟨_, e⟩ | ⟨_, _, e⟩ | ⟨_, _, e⟩ <;> simp [e]

@[simp] theorem driveInputs_cfg (x : Inputs) (s : State) : (driveInputs x s).cfg = s.cfg := showOutputs_cfg _

@[simp] theorem elapse_cfg (n : Nat) (s : State) : (elapse n s).cfg = s.cfg := showOutputs_cfg _

@[simp] theorem clockEdge_cfg (s : State) : (clockEdge s).cfg = s.cfg := by
  unfold clockEdge
  split
  · simp
  · rfl

@[simp] theorem clockEdgeWhileChanging_cfg (x : Inputs) (s : State) : (clockEdgeWhileChanging x s).cfg = s.cfg := by
  rcases clockEdgeWhileChanging_cases x s with ⟨_, e⟩ | ⟨_, _, _, e⟩ <;> simp [e]

theorem cleanMove_cfg {s t : State} (h : CleanMove s t) : t.cfg = s.cfg := by
  cases h with
  | transact i => exact transact_cfg i s
  | remap => rfl
  | drive x => exact driveInputs_cfg x s
  | elapse n => exact elapse_cfg n s
  | edge => exact clockEdge_cfg s
  | powerUp => rfl

/-- Settles O53: no move of a step writes the parameters. -/
theorem parametersNeverChange : Obligations.ParametersNeverChange := by
  intro s t h
  obtain ⟨rest, hmove | ⟨x, _, rfl⟩⟩ := step_cases h
  · have hcfg := cleanMove_cfg hmove
    exact hcfg
  · exact clockEdgeWhileChanging_cfg x _

/-! ### The registers between edges and at clean edges (R22, R23, R111, R116) -/

section Registered
variable {s : State} (h : s.cfg.outputReg = true)
include h

theorem showOutputs_of_registered : showOutputs s = s := if_pos h

theorem driveInputs_of_registered (x : Inputs) : driveInputs x s = { s with inp := x, settling := .settling 0 } :=
  showOutputs_of_registered (s := drivePorts x s) h

theorem elapse_of_registered (n : Nat) : elapse n s = { s with settling := settleBy n s.settling } :=
  showOutputs_of_registered (s := { s with settling := settleBy n s.settling }) h

theorem clockEdge_of_registered : clockEdge s = registerEdge s.inp.rst (outputsOf s.cfg s.inp) s := if_pos h

end Registered

/-- Settles O56: without an edge the register stage shows nothing new. -/
theorem registersHoldBetweenEdges : Obligations.RegistersHoldBetweenEdges := by
  intro s x n hreg
  rw [driveInputs_of_registered hreg, elapse_of_registered hreg]
  exact ⟨rfl, rfl, rfl, rfl⟩

/-- Settles O46: the three cases of a clean edge are those of `registerEdge`. -/
theorem clockEdgeLoadsTheRegisters : Obligations.ClockEdgeLoadsTheRegisters := by
  intro s hreg
  rw [clockEdge_of_registered hreg]
  refine ⟨fun hrst => ?_, fun hrst hwas => ?_, fun hrst hwas => ?_⟩
  · rw [hrst]
    rfl
  · simp [registerEdge, hrst, hwas]
  · simp [registerEdge, hrst, hwas, drawOutputs]

theorem registerEdge_registersSound (rst : Bool) (x : Inputs) (s : State) :
    (registerEdge rst (outputsOf s.cfg x) s).RegistersSound := by
  rcases registerEdge_cases rst (outputsOf s.cfg x) s with ⟨_, e⟩ | ⟨_, _, e⟩ | ⟨_, hwas, e⟩
  · exact fun _ _ => .inl (by rw [e])
  · exact fun _ _ => .inr ⟨x, by rw [e]⟩
  · exact fun _ hreset => absurd hreset (by simp [e, hwas])

theorem evaluateInputs_registersSound (s : State) : (evaluateInputs s).RegistersSound := by
  rcases evaluateInputs_cases s with ⟨_, e⟩ | ⟨_, e⟩ | ⟨_, _, hwas, e⟩
  · exact fun _ _ => .inr ⟨s.inp, by rw [e]⟩
  · exact fun _ _ => .inl (by rw [e])
  · exact fun _ hreset => absurd hreset (by simp [e, hwas])

theorem cleanMove_registersSound {s t : State} (hmove : CleanMove s t) (h : s.RegistersSound) : t.RegistersSound := by
  by_cases hreg : s.cfg.outputReg = true
  · cases hmove with
    | transact i => exact evaluateInputs_registersSound (drivePorts (drivenInputs i s.inp) s)
    | remap => exact h
    | drive x => rw [driveInputs_of_registered hreg]; exact h
    | elapse n => rw [elapse_of_registered hreg]; exact h
    | edge => rw [clockEdge_of_registered hreg]; exact registerEdge_registersSound s.inp.rst s.inp s
    | powerUp => exact fun _ hreset => absurd hreset Bool.false_ne_true
  · exact fun hreg' => absurd (cleanMove_cfg hmove ▸ hreg') hreg

/-- Settles O57: a clean move loads the reset values or the function of the standing inputs, or leaves the registers alone. -/
theorem cleanStepsKeepTheRegistersSound : Obligations.CleanStepsKeepTheRegistersSound := by
  intro s t hclean hsound hstep
  obtain ⟨rest, hmove | ⟨x, hprogram, _⟩⟩ := step_cases hstep
  · exact cleanMove_registersSound hmove hsound
  · exact absurd hprogram (hclean x rest)

/-! ### Every value on a signed port fits it (R13, R20) -/

/-- A two's-complement value fits the port whose bits it is read from. -/
theorem fitsAxis_toInt (c : Config) (v : BitVec c.axisW) : fitsAxis c v.toInt := ⟨BitVec.le_toInt v, BitVec.toInt_lt⟩

theorem fitsAxis_zero (c : Config) : fitsAxis c 0 := by simpa using fitsAxis_toInt c 0#c.axisW

theorem packetInvalid_fits (c : Config) : packetInvalid.Fits c :=
  ⟨fitsAxis_zero c, fitsAxis_zero c, fitsAxis_zero c, fitsAxis_zero c, fitsAxis_zero c⟩

theorem decodePacket_fits (c : Config) (f : Frame) : (decodePacket c f).Fits c := by
  have hzero := fitsAxis_zero c
  cases hvalid : frameValid f with
  | false => rw [decodePacket_of_invalid c hvalid]; exact packetInvalid_fits c
  | true =>
    rw [decodePacket_of_valid c hvalid]
    rcases packetOfCommand_cases c f with ⟨_, e⟩ | ⟨_, e⟩ | ⟨_, e⟩ | ⟨_, _, _, e⟩
    · rw [e]
      exact ⟨fitsAxis_toInt c _, fitsAxis_toInt c _, fitsAxis_toInt c _, fitsAxis_toInt c _, hzero⟩
    · rw [e]
      exact ⟨fitsAxis_toInt c _, fitsAxis_toInt c _, hzero, hzero, hzero⟩
    · rw [e]
      exact ⟨hzero, hzero, hzero, hzero, fitsAxis_toInt c _⟩
    · rw [e]
      exact packetInvalid_fits c

theorem freeOutputs_fits (c : Config) (draw : Nat) : (freeOutputs c draw).pkt.Fits c :=
  ⟨fitsAxis_toInt c _, fitsAxis_toInt c _, fitsAxis_toInt c _, fitsAxis_toInt c _, fitsAxis_toInt c _⟩

/-! ### The invariant -/

/-- Where outputs come from once something has put them on their ports: the reset values (R23), the function of some inputs (R22,
R24), or one of the first `n` draws (R111, R114, R115). -/
def Explained (c : Config) (n : Nat) (o : Outputs) : Prop :=
  o = resetOutputs ∨ (∃ x, o = outputsOf c x) ∨ ∃ d < n, o = freeOutputs c d

theorem explained_resetOutputs (c : Config) (n : Nat) : Explained c n resetOutputs := .inl rfl

theorem explained_outputsOf (c : Config) (n : Nat) (x : Inputs) : Explained c n (outputsOf c x) := .inr (.inl ⟨x, rfl⟩)

theorem explained_freeOutputs (c : Config) (n : Nat) : Explained c (n + 1) (freeOutputs c n) :=
  .inr (.inr ⟨n, Nat.lt_succ_self n, rfl⟩)

theorem explained_windowOutputs (c : Config) (n : Nat) : Explained c (n + 1) (windowOutputs c n) := by
  rcases windowOutputs_any c n with e | ⟨x, _, e⟩
  · exact e ▸ explained_freeOutputs c n
  · exact e ▸ explained_outputsOf c (n + 1) x

/-- A later draw explains no less. -/
theorem Explained.succ {c : Config} {n : Nat} {o : Outputs} (h : Explained c n o) : Explained c (n + 1) o := by
  rcases h with e | hx | ⟨d, hd, e⟩
  · exact .inl e
  · exact .inr (.inl hx)
  · exact .inr (.inr ⟨d, Nat.lt_succ_of_lt hd, e⟩)

/-- Explained outputs fit their ports, so the invariant need not ask for both. -/
theorem Explained.fits {c : Config} {n : Nat} {o : Outputs} (h : Explained c n o) : o.pkt.Fits c := by
  rcases h with rfl | ⟨x, rfl⟩ | ⟨d, _, rfl⟩
  · exact packetInvalid_fits c
  · exact decodePacket_fits c x.decFrame
  · exact freeOutputs_fits c d

theorem inv_of_explained {s : State} (hlegal : s.cfg.legal = true) (hremap : s.remapVal = remappedOperand s.cfg s.remapRaw)
    (hout : Explained s.cfg s.draws s.out) (hfollows : s.Follows → s.out = outputsOf s.cfg s.inp) : s.Inv :=
  ⟨hlegal, hout.fits, hremap, hfollows, fun _ => hout⟩

/-- With the register there is nothing to follow (R22). -/
theorem not_follows_of_registered {s : State} (h : s.cfg.outputReg = true) : ¬ s.Follows :=
  fun ⟨hcomb, _⟩ => Bool.false_ne_true (hcomb.symm.trans h)

/-- With the register, explained outputs are all that the invariant asks of the ports of the top level. -/
theorem inv_of_registered {s : State} (hreg : s.cfg.outputReg = true) (hlegal : s.cfg.legal = true)
    (hremap : s.remapVal = remappedOperand s.cfg s.remapRaw) (hout : Explained s.cfg s.draws s.out) : s.Inv :=
  inv_of_explained hlegal hremap hout fun hfollows => absurd hfollows (not_follows_of_registered hreg)

/-- Outputs that have not settled follow nothing yet (R114). -/
theorem not_follows_of_settling {s : State} {n : Nat} (h : s.settling = .settling n) : ¬ s.Follows :=
  fun ⟨_, hsettled⟩ => Settling.noConfusion (hsettled.symm.trans h)

/-- Settles O55: the zero inputs of reset give the outputs that `State.reset` holds. -/
theorem resetMeetsTheInvariant : Obligations.ResetMeetsTheInvariant := by
  have hout : State.reset.out = outputsOf State.reset.cfg State.reset.inp := by decide
  exact inv_of_explained (by decide) (by decide) (.inr (.inl ⟨_, hout⟩)) fun _ => hout

section Invariant
variable {s : State} (h : s.Inv)
include h

theorem withProgram_inv (rest : List Stimulus) : (s.withProgram rest).Inv :=
  ⟨h.legal, h.fits, h.remapper, h.follows, h.registered⟩

theorem record_inv (r : Reading) : (record r s).Inv := ⟨h.legal, h.fits, h.remapper, h.follows, h.registered⟩

theorem driveRemapper_inv (raw : Byte) : (driveRemapper raw s).Inv := ⟨h.legal, h.fits, rfl, h.follows, h.registered⟩

theorem drivePorts_inv (x : Inputs) : (drivePorts x s).Inv :=
  ⟨h.legal, h.fits, h.remapper, fun hfollows => absurd hfollows (not_follows_of_settling rfl), h.registered⟩

theorem evaluateInputs_inv : (evaluateInputs s).Inv := by
  rcases evaluateInputs_cases s with ⟨_, e⟩ | ⟨⟨hreg, _⟩, e⟩ | ⟨hreg, _, _, e⟩
  · rw [e]
    exact inv_of_explained h.legal h.remapper (explained_outputsOf s.cfg s.draws s.inp) fun _ => rfl
  · rw [e]
    exact inv_of_registered hreg h.legal h.remapper (explained_resetOutputs s.cfg s.draws)
  · rw [e]
    exact inv_of_registered hreg h.legal h.remapper (explained_freeOutputs s.cfg s.draws)

theorem transact_inv (i : Instr) : (transact i s).Inv := record_inv (evaluateInputs_inv (drivePorts_inv h _)) _

omit h in
/-- Showing combinational outputs makes them their function, or a new draw, whatever they were; registers keep what they hold. -/
theorem showOutputs_inv (hlegal : s.cfg.legal = true) (hremap : s.remapVal = remappedOperand s.cfg s.remapRaw)
    (hregistered : s.cfg.outputReg = true → s.Inv) : (showOutputs s).Inv := by
  rcases showOutputs_cases s with ⟨hreg, e⟩ | ⟨_, _, e⟩ | ⟨_, ⟨n, hsettling⟩, e⟩
  · rw [e]
    exact hregistered hreg
  · rw [e]
    exact inv_of_explained hlegal hremap (explained_outputsOf s.cfg s.draws s.inp) fun _ => rfl
  · rw [e]
    exact inv_of_explained hlegal hremap (explained_freeOutputs s.cfg s.draws)
      fun hfollows => absurd hfollows (not_follows_of_settling hsettling)

theorem driveInputs_inv (x : Inputs) : (driveInputs x s).Inv :=
  showOutputs_inv (s := drivePorts x s) h.legal h.remapper fun _ => drivePorts_inv h x

theorem elapse_inv (n : Nat) : (elapse n s).Inv :=
  showOutputs_inv (s := { s with settling := settleBy n s.settling }) h.legal h.remapper
    fun hreg => inv_of_registered hreg h.legal h.remapper (h.registered hreg)

/-- An edge that samples explained outputs keeps the invariant, whatever `rst` it samples. -/
theorem registerEdge_inv (hreg : s.cfg.outputReg = true) (rst : Bool) {o : Outputs} (ho : Explained s.cfg s.draws o) :
    (registerEdge rst o s).Inv := by
  rcases registerEdge_cases rst o s with ⟨_, e⟩ | ⟨_, _, e⟩ | ⟨_, _, e⟩
  · rw [e]
    exact inv_of_registered hreg h.legal h.remapper (explained_resetOutputs s.cfg s.draws)
  · rw [e]
    exact inv_of_registered hreg h.legal h.remapper ho
  · rw [e]
    exact inv_of_registered hreg h.legal h.remapper (explained_freeOutputs s.cfg s.draws)

theorem clockEdge_inv : (clockEdge s).Inv := by
  unfold clockEdge
  split
  next hreg => exact registerEdge_inv h hreg s.inp.rst (explained_outputsOf s.cfg s.draws s.inp)
  next => exact h

/-- Counting a draw keeps the invariant: what was drawn already stays so. -/
theorem countDraw_inv : State.Inv { s with draws := s.draws + 1 } :=
  ⟨h.legal, h.fits, h.remapper, h.follows, fun hreg => Explained.succ (h.registered hreg)⟩

theorem clockEdgeWhileChanging_inv (x : Inputs) : (clockEdgeWhileChanging x s).Inv := by
  rcases clockEdgeWhileChanging_cases x s with ⟨_, e⟩ | ⟨hreg, rst, _, e⟩
  · rw [e]
    exact driveInputs_inv h x
  · rw [e]
    exact drivePorts_inv (registerEdge_inv (countDraw_inv h) hreg rst (explained_windowOutputs s.cfg s.draws)) x

theorem powerUp_inv : (powerUp s).Inv :=
  inv_of_explained h.legal h.remapper (explained_freeOutputs s.cfg s.draws)
    fun hfollows => absurd hfollows (not_follows_of_settling rfl)

theorem cleanMove_inv {t : State} (hmove : CleanMove s t) : t.Inv := by
  cases hmove with
  | transact i => exact transact_inv h i
  | remap raw => exact record_inv (driveRemapper_inv h raw) _
  | drive x => exact driveInputs_inv h x
  | elapse n => exact elapse_inv h n
  | edge => exact clockEdge_inv h
  | powerUp => exact powerUp_inv h

end Invariant

/-- Settles O54: each move of a step keeps the invariant, the edge inside a window of changing inputs too. -/
theorem stepKeepsTheInvariant : Obligations.StepKeepsTheInvariant := by
  intro s t hinv hstep
  obtain ⟨rest, hmove | ⟨x, _, rfl⟩⟩ := step_cases hstep
  · exact cleanMove_inv (withProgram_inv hinv rest) hmove
  · exact clockEdgeWhileChanging_inv (withProgram_inv hinv rest) x

end Sys2Proof.Machine

/-! ## A frame on its 80-bit port (R29) -/

namespace Sys2Proof

/-- Two port values that agree on every byte agree. -/
theorem eq_of_portBytes {v w : BitVec 80} (h : ∀ i : Fin 10, v.extractLsb' (8 * i) 8 = w.extractLsb' (8 * i) 8) : v = w := by
  refine BitVec.eq_of_getLsbD_eq fun j hj => ?_
  have hbyte := congrArg (·.getLsbD (j % 8)) (h ⟨j / 8, by omega⟩)
  simpa [Nat.mod_lt, Nat.div_add_mod] using hbyte

theorem Frame.read_ofBits (w : BitVec 80) (i : Fin 10) : (Frame.ofBits w).read i = w.extractLsb' (8 * i) 8 := by
  fin_cases i <;> rfl

/-- Bit k of byte i lies past the i bytes below it in the concatenation (R29). -/
theorem Frame.extractLsb'_toBits (f : Frame) (i : Fin 10) : f.toBits.extractLsb' (8 * i) 8 = f.read i := by
  refine BitVec.eq_of_getLsbD_eq fun k hk => ?_
  have hpast (m : Nat) (hm : 8 ≤ m) : ¬ k + m < 8 := by omega
  rw [BitVec.getLsbD_extractLsb', decide_eq_true hk, Bool.true_and, Nat.add_comm]
  -- The width as the sum of the bytes' widths, kept unevaluated: so the lemma about `++` applies byte by byte.
  change BitVec.getLsbD (w := 8 + 8 + 8 + 8 + 8 + 8 + 8 + 8 + 8 + 8) _ _ = _
  simp only [Frame.toBits, BitVec.getLsbD_append, -Nat.reduceAdd]
  fin_cases i <;> simp [hk, hpast]

theorem Frame.toBits_ofBits (w : BitVec 80) : (Frame.ofBits w).toBits = w :=
  eq_of_portBytes fun i => (Frame.extractLsb'_toBits _ i).trans (Frame.read_ofBits w i)

theorem Frame.ofBits_toBits (f : Frame) : Frame.ofBits f.toBits = f :=
  Frame.eq_of_reads fun i => (Frame.read_ofBits _ i).trans (Frame.extractLsb'_toBits f i)

/-- Settles O6: a frame and its port value are each decided by the ten bytes, and the bytes are the same. -/
theorem portBitsAreFrameBytes : Obligations.PortBitsAreFrameBytes :=
  fun w f => ⟨Frame.read_ofBits w, Frame.toBits_ofBits w, Frame.ofBits_toBits f⟩

end Sys2Proof

/-! ## What a transaction leaves unchanged (R16, R25) -/

namespace Sys2Proof.Machine

/-- A transaction keeps the stand-alone remapper and the pending program, and writes down one reading. -/
theorem transact_keeps (i : Instr) (s : State) :
    (transact i s).remapRaw = s.remapRaw ∧ (transact i s).remapVal = s.remapVal ∧ (transact i s).program = s.program ∧
    ∃ r, (transact i s).results = s.results ++ [r] := by
  simp [transact, evaluateInputs, drivePorts]

/-- Where outputs follow the inputs, an instruction that leaves the `tel_*` ports alone leaves `tel_frame` alone (R16, R24). -/
theorem transact_telFrame_of_follows {i : Instr} {s : State} (hinv : s.Inv) (hfollows : s.Follows)
    (hports : (drivenInputs i s.inp).encodePart = s.inp.encodePart) : (transact i s).out.telFrame = s.out.telFrame := by
  obtain ⟨hdev, hvolt, hflags, hcnt⟩ := by simpa only [Inputs.encodePart, Prod.mk.injEq] using hports
  rw [transact_of_shows i (.inl hfollows.1), hinv.follows hfollows]
  simp [outputsOf, outputsWith, hdev, hvolt, hflags, hcnt]

/-- Settles O44: an instruction that drives `dec_frame` is a transaction, and drives nothing else. -/
theorem frameInstructionsKeepTheRest : Obligations.FrameInstructionsKeepTheRest := by
  intro i f s hframe
  have hinp : (transact i s).inp = { s.inp with decFrame := f } :=
    (transact_inp i s).trans (drivenInputs_of_drivenFrame hframe s.inp)
  obtain ⟨hraw, hval, hprogram, hresults⟩ := transact_keeps i s
  refine ⟨_, exec_eq_transact (ne_remap_of_drivenFrame hframe) s, transact_cfg i s, hinp, hraw, hval, hprogram, hresults, ?_⟩
  intro hinv hfollows k
  rw [transact_telFrame_of_follows hinv hfollows (drivenInputs_encodePart_of_drivenFrame hframe s.inp)]

end Sys2Proof.Machine

/-! ## The decoder and the encoder (R41, R44 to R49, R52, R53) -/

namespace Sys2Proof

/-! ### The bytes of a frame -/

theorem Frame.eq_bytes (f : Frame) :
    f = #v[f.read 0, f.read 1, f.read 2, f.read 3, f.read 4, f.read 5, f.read 6, f.read 7, f.read 8, f.read 9] :=
  Frame.eq_of_reads fun i => by fin_cases i <;> rfl

/-- A valid frame is the one that MKFRAME makes of its bytes 1..7: the tests fix the other three (R53, R60). -/
theorem mkFrame_of_valid {f : Frame} (h : frameValid f = true) :
    mkFrame (f.read 1) (f.read 2) (f.read 3) (f.read 4) (f.read 5) (f.read 6) (f.read 7) = f := by
  obtain ⟨hstart, hend, hchk⟩ := (frameValid_iff f).1 h
  conv_rhs => rw [f.eq_bytes, hstart, hend, hchk]
  rfl

/-- Settles O7: both sentinels and the checksum of a made frame are what VALIDATE tests. -/
theorem madeFramesAreValid : Obligations.MadeFramesAreValid :=
  fun dev cmd p0 p1 p2 p3 p4 => ⟨rfl, Machine.frameValid_mkFrame dev cmd p0 p1 p2 p3 p4⟩

/-! ### The decoder -/

theorem decodeFrame_of_valid {f : Frame} (h : frameValid f = true) :
    decodeFrame f = decodeCommand (f.read 1) (f.read 2) (f.read 3) (f.read 4) (f.read 5) (f.read 6) (f.read 7) := if_pos h

theorem decodeFrame_of_invalid {f : Frame} (h : ¬ frameValid f = true) : decodeFrame f = .invalid f := if_neg h

/-- The codes of the OTHER arm are those that select none of the seven named arms (R48, R74). -/
theorem isOtherCode_iff (c : Byte) :
    isOtherCode c = true ↔ c ≠ codeJoystick ∧ c ≠ codeButton ∧ c ≠ codeHeartbeat ∧ c ≠ codeEstop ∧
      c ≠ codeAnnounceCapabilities ∧ c ≠ codeServoZ ∧ c ≠ codeTelemetry := by
  simp [isOtherCode, assignedCodes]

section Command
variable (dev cmd p0 p1 p2 p3 p4 : Byte)

@[simp] theorem decodeFrame_mkFrame :
    decodeFrame (mkFrame dev cmd p0 p1 p2 p3 p4) = decodeCommand dev cmd p0 p1 p2 p3 p4 :=
  decodeFrame_of_valid (Machine.frameValid_mkFrame dev cmd p0 p1 p2 p3 p4)

theorem decodeCommand_of_isOtherCode (h : isOtherCode cmd = true) :
    decodeCommand dev cmd p0 p1 p2 p3 p4 = .other dev cmd p0 p1 p2 p3 p4 := by
  obtain ⟨hjoy, hbtn, hbeat, hestop, hann, hsrv, htel⟩ := (isOtherCode_iff cmd).1 h
  simp [decodeCommand, hjoy, hbtn, hbeat, hestop, hann, hsrv, htel]

/-- Every arm is well-formed and keeps every byte it was given, the command byte too (R41, R48). -/
theorem decodeCommand_encodes :
    (decodeCommand dev cmd p0 p1 p2 p3 p4).wellFormed = true ∧
    encode (decodeCommand dev cmd p0 p1 p2 p3 p4) = some (mkFrame dev cmd p0 p1 p2 p3 p4) := by
  by_cases hother : isOtherCode cmd = true
  · rw [decodeCommand_of_isOtherCode dev cmd p0 p1 p2 p3 p4 hother]
    exact ⟨hother, rfl⟩
  · have hassigned : cmd ∈ assignedCodes := by simpa [isOtherCode] using hother
    simp only [assignedCodes, List.mem_cons, List.not_mem_nil, or_false] at hassigned
    rcases hassigned with rfl | rfl | rfl | rfl | rfl | rfl | rfl <;> exact ⟨rfl, rfl⟩

end Command

/-! ### Each undoes the other -/

/-- Settles O4: a frame made with a row's command byte selects that row, and INVALID keeps its frame as it is. -/
theorem encodedFramesDecodeBack : Obligations.EncodedFramesDecodeBack := by
  intro i f hwf hencode
  cases i with
  | joystick | button | heartbeat | estop | announceCapabilities | servoZ | telemetry =>
    cases hencode
    exact decodeFrame_mkFrame ..
  | other dev cmd p0 p1 p2 p3 p4 =>
    cases hencode
    rw [decodeFrame_mkFrame]
    exact decodeCommand_of_isOtherCode dev cmd p0 p1 p2 p3 p4 hwf
  | invalid =>
    cases hencode
    exact decodeFrame_of_invalid (by simpa [Instr.wellFormed] using hwf)
  | validate | checksum | decode | remap | encodeTelemetry => cases hencode

/-- Settles O5: a valid frame is made of the bytes that its arm keeps, and any other frame is kept whole. -/
theorem decodedFramesEncodeBack : Obligations.DecodedFramesEncodeBack := by
  intro f
  by_cases hvalid : frameValid f = true
  · have harm := decodeCommand_encodes (f.read 1) (f.read 2) (f.read 3) (f.read 4) (f.read 5) (f.read 6) (f.read 7)
    rwa [← decodeFrame_of_valid hvalid, mkFrame_of_valid hvalid] at harm
  · rw [decodeFrame_of_invalid hvalid]
    exact ⟨by simpa [Instr.wellFormed] using hvalid, rfl⟩

/-- Settles O3: the decoder run on each of the six words. -/
theorem writtenFramesDecode : Obligations.WrittenFramesDecode := ⟨rfl, rfl, rfl, rfl, rfl, rfl⟩

/-- Ten bytes are one frame, with no byte after it (R26). -/
theorem decodeBytes_toList (f : Frame) : decodeBytes f.toList = .ok (decodeFrame f, []) := by
  rw [f.eq_bytes]
  rfl

end Sys2Proof

namespace Sys2Proof.Machine

/-! ### Where a step takes its instruction from (R52; log 1) -/

theorem step_of_idle {s : State} (h : s.program = []) : step s = exec (standingInstr s) s := by
  simp [step, h]

/-- Settles O1: the instruction read from the ten bytes on `dec_frame` is the standing one. -/
theorem stepRunsTheStandingFrame : Obligations.StepRunsTheStandingFrame := by
  intro s i hidle hread
  have hstanding : standingInstr s = i := by
    rw [decodeBytes_toList] at hread
    cases hread
    rfl
  rw [step_of_idle hidle, hstanding]

/-- Settles O2: each act is one arm of `step`, on the state with the rest of the program. -/
theorem stepTakesTheNextStimulus : Obligations.StepTakesTheNextStimulus :=
  fun _ _ _ _ _ => ⟨rfl, rfl, rfl, rfl, rfl, rfl⟩

/-! ### The operand forms (R44 to R47) -/

/-- A two's-complement value gives back the bits of the port it is read from. -/
@[simp] theorem axisBits_toInt (c : Config) (v : BitVec c.axisW) : axisBits c v.toInt = v := BitVec.ofInt_toInt

/-- Settles O32: at a legal width both signed operands hold their values, and each port's bits give its operand back. -/
theorem operandForms : Obligations.OperandForms := by
  intro c b hlegal
  have hrawBits : axisBits c (rawOperand c b) = b.setWidth c.axisW := axisBits_toInt c _
  have hremapBits : axisBits c (remappedOperand c b) = remapPort c b := axisBits_toInt c _
  refine ⟨rawOperand_eq_toNat hlegal b, remappedOperand_eq_remapValue hlegal b, rfl, rfl, hrawBits, ?_, ?_⟩
  · rw [hrawBits]
    exact rawOperand_eq_toNat hlegal b
  · rw [hremapBits]
    exact remappedOperand_eq_remapValue hlegal b

end Sys2Proof.Machine

/-! ## The frame validator (R54 to R61) -/

namespace Sys2Proof.Machine

/-! ### XOR over a list of bytes -/

/-- The XOR-reduction of a list of bytes (00_scope.md R6). -/
def xorAll (bytes : List Byte) : Byte := bytes.foldr (· ^^^ ·) 0

@[simp] theorem xorAll_nil : xorAll [] = 0 := rfl

@[simp] theorem xorAll_cons (b : Byte) (l : List Byte) : xorAll (b :: l) = b ^^^ xorAll l := rfl

@[simp] theorem xorAll_append (l m : List Byte) : xorAll (l ++ m) = xorAll l ^^^ xorAll m := by
  induction l with
  | nil => simp
  | cons b l ih => simp [ih, BitVec.xor_assoc]

/-- The order of the bytes does not enter (R6). -/
theorem xorAll_perm {l m : List Byte} (h : l.Perm m) : xorAll l = xorAll m := h.foldr_eq 0

/-- Bit k of a reduction is the parity of bit k of the bytes (R57). -/
theorem getLsbD_xorAll (l : List Byte) (k : Nat) :
    (xorAll l).getLsbD k = decide (l.countP (·.getLsbD k) % 2 = 1) := by
  induction l with
  | nil => simp
  | cons b l ih =>
    rw [xorAll_cons, BitVec.getLsbD_xor, ih, List.countP_cons]
    cases b.getLsbD k with
    | false => simp
    | true =>
      rw [Bool.true_xor, ← decide_not, decide_eq_decide]
      simp only [if_true]
      omega

/-- Two reductions over the same positions differ by the reduction of the differences. -/
theorem xorAll_map_xor {α : Type} (l : List α) (a b : α → Byte) :
    xorAll (l.map a) ^^^ xorAll (l.map b) = xorAll (l.map fun i => a i ^^^ b i) := by
  induction l with
  | nil => simp
  | cons i l ih =>
    simp only [List.map_cons, xorAll_cons, ← ih]
    ac_rfl

/-! ### The checksum and its test (R57, R58) -/

/-- The XOR tree as a reduction over positions (R57). -/
theorem checksum_eq_xorAll (f : Frame) : checksum f = xorAll ([1, 2, 3, 4, 5, 6, 7].map f.read) := by
  simp [checksum, xorTree, BitVec.xor_assoc]

/-- Every bracketing gives the reduction of the bytes it takes (R6). -/
theorem Bracketing.eval_eq_xorAll (f : Frame) (t : Bracketing) : t.eval f = xorAll (t.leaves.map f.read) := by
  induction t with
  | byte i => simp [Bracketing.eval, Bracketing.leaves]
  | xor l r ihl ihr => simp [Bracketing.eval, Bracketing.leaves, ihl, ihr]

/-- A byte outside the tree does not enter the checksum (R57). -/
theorem checksum_write (f : Frame) {i : Fin 10} (v : Byte) (h : i ∉ ([1, 2, 3, 4, 5, 6, 7] : List (Fin 10))) :
    checksum (f.write i v) = checksum f := by
  rw [checksum_eq_xorAll, checksum_eq_xorAll]
  refine congrArg xorAll (List.map_congr_left fun j hj => f.read_write_of_ne v ?_)
  rintro rfl
  exact h hj

theorem chkOk_iff (f : Frame) : chkOk f = true ↔ f.read 8 = checksum f := by
  simp [chkOk]

/-- The XOR of bytes 1..8, which the checksum test asks to be zero (R58). -/
def xorWithCheckByte (f : Frame) : Byte := xorAll ([1, 2, 3, 4, 5, 6, 7, 8].map f.read)

theorem xorWithCheckByte_eq (f : Frame) : xorWithCheckByte f = checksum f ^^^ f.read 8 := by
  simp [xorWithCheckByte, checksum, xorTree, BitVec.xor_assoc]

theorem chkOk_iff_xorWithCheckByte_eq_zero (f : Frame) : chkOk f = true ↔ xorWithCheckByte f = 0#8 := by
  rw [chkOk_iff, xorWithCheckByte_eq, BitVec.xor_eq_zero_iff, eq_comm]

/-- Settles O10: two bytes are equal exactly when their XOR is zero. -/
theorem chkOkIffXorOfBytesOneToEightIsZero : Obligations.ChkOkIffXorOfBytesOneToEightIsZero := by
  intro f
  have hzero := chkOk_iff_xorWithCheckByte_eq_zero f
  rw [xorWithCheckByte_eq] at hzero
  exact ⟨chkOk_iff f, hzero⟩

/-- Settles O9: the bits and the bracketings follow from the reduction over positions, in which 0, 8 and 9 do not occur. -/
theorem checksumIsTheXorOfBytesOneToSeven : Obligations.ChecksumIsTheXorOfBytesOneToSeven := by
  intro f
  refine ⟨rfl, ?parity, ?balanced, ?bracketing, ?leftOut⟩
  case parity =>
    intro k _
    rw [checksum_eq_xorAll, getLsbD_xorAll, List.countP_map]
    rfl
  case balanced => simp [checksum, xorTree, BitVec.xor_assoc]
  case bracketing =>
    intro t hleaves
    rw [t.eval_eq_xorAll, checksum_eq_xorAll, xorAll_perm (hleaves.map f.read)]
  case leftOut =>
    intro a b c
    rw [checksum_write _ c (by decide), checksum_write _ b (by decide), checksum_write _ a (by decide)]

/-! ### The sentinels (R54 to R56) -/

theorem startOk_iff (f : Frame) : startOk f = true ↔ f.read 0 = 0xAA#8 := beq_iff_eq

theorem endOk_iff (f : Frame) : endOk f = true ↔ f.read 9 = 0x55#8 := beq_iff_eq

/-- Settles O8: each test compares one byte with its sentinel, and neither byte is in the XOR tree. -/
theorem sentinelTests : Obligations.SentinelTests := by
  intro f
  refine ⟨startOk_iff f, endOk_iff f, rfl, ?exchanged, ?leftOut⟩
  case exchanged =>
    intro hstart hend
    simp [startOk, endOk, startByte, endByte, hstart, hend]
  case leftOut =>
    intro a b
    rw [checksum_write _ b (by decide), checksum_write _ a (by decide)]

/-! ### What the checksum detects (R61) -/

/-- The XORs of the bytes 1..8 of two frames differ at bit k exactly where an odd number of those bytes do. -/
theorem getLsbD_xorWithCheckByte_xor (f g : Frame) (k : Nat) :
    (xorWithCheckByte f ^^^ xorWithCheckByte g).getLsbD k = decide (diffCount f g k % 2 = 1) := by
  unfold xorWithCheckByte diffCount
  rw [xorAll_map_xor, getLsbD_xorAll, List.countP_map]
  simp only [Function.comp_def, BitVec.getLsbD_xor]

/-- Against a frame that passes the test, the difference counts alone decide the XOR of bytes 1..8. -/
theorem getLsbD_xorWithCheckByte {f : Frame} (hf : chkOk f = true) (g : Frame) (k : Nat) :
    (xorWithCheckByte g).getLsbD k = decide (diffCount f g k % 2 = 1) := by
  rw [← getLsbD_xorWithCheckByte_xor, (chkOk_iff_xorWithCheckByte_eq_zero f).1 hf, BitVec.zero_xor]

theorem chkOk_of_even_diffCount {f g : Frame} (hf : chkOk f = true) (heven : ∀ k < 8, diffCount f g k % 2 = 0) :
    chkOk g = true := by
  refine (chkOk_iff_xorWithCheckByte_eq_zero g).2 (BitVec.eq_of_getLsbD_eq fun k hk => ?_)
  simp [getLsbD_xorWithCheckByte hf, heven k hk]

theorem chkOk_eq_false_of_odd_diffCount {f g : Frame} {k : Nat} (hf : chkOk f = true) (hodd : diffCount f g k % 2 = 1) :
    chkOk g = false := by
  refine Bool.eq_false_iff.2 fun hg => ?_
  have hbit := getLsbD_xorWithCheckByte hf g k
  rw [(chkOk_iff_xorWithCheckByte_eq_zero g).1 hg] at hbit
  simp [hodd] at hbit

/-- A frame with one bit of one byte inverted. -/
def flipBit (f : Frame) (i : Fin 10) (k : Nat) : Frame := f.write i (f.read i ^^^ (0x01#8 <<< k))

theorem getLsbD_flipBit (f : Frame) (i j : Fin 10) {k : Nat} (hk : k < 8) :
    ((f.read j).getLsbD k != ((flipBit f i k).read j).getLsbD k) = (j == i) := by
  unfold flipBit
  by_cases hij : j = i
  · subst hij
    simp [hk]
  · rw [f.read_write_of_ne _ (Ne.symm hij)]
    simp [hij]

/-- One inverted bit of the bytes 1..8 is one difference in its position. -/
theorem diffCount_flipBit (f : Frame) {i : Fin 10} {k : Nat} (hlo : 1 ≤ i.val) (hhi : i.val ≤ 8) (hk : k < 8) :
    diffCount f (flipBit f i k) k = 1 := by
  have hcount : ∀ i : Fin 10, 1 ≤ i.val → i.val ≤ 8 → ([1, 2, 3, 4, 5, 6, 7, 8] : List (Fin 10)).count i = 1 := by decide
  unfold diffCount
  simp only [getLsbD_flipBit f i _ hk]
  exact hcount i hlo hhi

theorem chkOk_of_frameValid {f : Frame} (h : frameValid f = true) : chkOk f = true := by
  obtain ⟨_, _, hchk⟩ := (frameValid_iff f).1 h
  exact (chkOk_iff f).2 hchk

theorem frameValid_eq_false_of_chkOk {f : Frame} (h : chkOk f = false) : frameValid f = false := by
  simp [frameValid, h]

/-- Settles O14: the parities of the differences decide the test, and a reordering does not change the checksum. -/
theorem whatTheChecksumDetects : Obligations.WhatTheChecksumDetects := by
  intro f hvalid
  have hf : chkOk f = true := chkOk_of_frameValid hvalid
  refine ⟨?oddDifference, ?singleBit, fun g => chkOk_of_even_diffCount hf, ?reordering⟩
  case oddDifference =>
    intro g k _ hodd
    exact frameValid_eq_false_of_chkOk (chkOk_eq_false_of_odd_diffCount hf hodd)
  case singleBit =>
    intro i k hlo hhi hk
    have hodd : diffCount f (flipBit f i k) k % 2 = 1 := by rw [diffCount_flipBit f hlo hhi hk]
    exact frameValid_eq_false_of_chkOk (chkOk_eq_false_of_odd_diffCount hf hodd)
  case reordering =>
    intro g hchkByte hperm
    have hsum : checksum g = checksum f := by
      rw [checksum_eq_xorAll, checksum_eq_xorAll]
      exact xorAll_perm hperm
    rw [chkOk_iff, hchkByte, hsum]
    exact (chkOk_iff f).1 hf

/-! ### CHECKSUM and VALIDATE as transactions (R59, R60) -/

/-- The whole effect of an instruction that drives a frame, where it shows its result: the reading is taken from the outputs of
that frame (R52, R112). -/
theorem exec_eq_shownFrame {i : Instr} {f : Frame} {s : State} (hframe : drivenFrame i = some f) (hshows : s.Shows) :
    exec i s = .next (s.shownFrame f (decodePacket s.cfg f)
      (readingOf i (outputsOf s.cfg { s.inp with decFrame := f }))) := by
  rw [exec_eq_transact (ne_remap_of_drivenFrame hframe), transact_of_shows i hshows, drivenInputs_of_drivenFrame hframe]
  rfl

/-- Settles O11: CHECKSUM reads `dec_chk`, which does not depend on the validity of the frame. -/
theorem checksumResult : Obligations.ChecksumResult :=
  fun _ _ hshows => exec_eq_shownFrame rfl hshows

theorem packetOfCommand_valid (c : Config) (f : Frame) : (packetOfCommand c f).valid = true := by
  rcases packetOfCommand_cases c f with ⟨_, e⟩ | ⟨_, e⟩ | ⟨_, e⟩ | ⟨_, _, _, e⟩ <;> rw [e] <;> rfl

/-- `dec_valid` is the answer of VALIDATE (R60, R63). -/
@[simp] theorem decodePacket_valid (c : Config) (f : Frame) : (decodePacket c f).valid = frameValid f := by
  cases hvalid : frameValid f with
  | false => rw [decodePacket_of_invalid c hvalid]; rfl
  | true => rw [decodePacket_of_valid c hvalid, packetOfCommand_valid]

/-- Settles O12: VALIDATE reads `dec_valid`, and the three tests of a valid frame are those of a well-formed one. -/
theorem validateResult : Obligations.ValidateResult := by
  intro f s hshows
  refine ⟨(decodePacket s.cfg f).valid, ?_, rfl, exec_eq_shownFrame rfl hshows⟩
  rw [decodePacket_valid]
  exact frameValid_iff f

end Sys2Proof.Machine

/-! ## The command dispatcher (R63 to R74) -/

namespace Sys2Proof.Machine

/-! ### The packet that byte 2 selects in a valid frame (R63, R65) -/

theorem frameWellFormed_iff (f : Frame) : frameWellFormed f ↔ frameValid f = true := (frameValid_iff f).symm

section ValidFrame
variable {c : Config} {f : Frame} (hvalid : frameValid f = true)
include hvalid

theorem decodePacket_of_joystick (hlegal : c.legal = true) (hcmd : f.read 2 = codeJoystick) :
    decodePacket c f =
      { blankPacket true 0x01 with
        leftX := remapValue (f.read 3), leftY := remapValue (f.read 4), rightX := remapValue (f.read 5)
        rightY := remapValue (f.read 6), auxBits := f.read 7 } := by
  have harm : packetOfCommand c f = packetJoystick c f := if_pos hcmd
  rw [decodePacket_of_valid c hvalid, harm]
  simp [packetJoystick, packetOfValid, packetInvalid, blankPacket, cmdOperand, auxOperand, hcmd, codeJoystick,
    remappedOperand_eq_remapValue hlegal]

theorem decodePacket_of_button (hlegal : c.legal = true) (hcmd : f.read 2 = codeButton) :
    decodePacket c f =
      { blankPacket true 0x02 with leftX := (f.read 3).toNat, leftY := (f.read 4).toNat, auxBits := f.read 3 } := by
  have harm : packetOfCommand c f = packetButton c f := by simp [packetOfCommand, hcmd, codeJoystick, codeButton]
  rw [decodePacket_of_valid c hvalid, harm]
  simp [packetButton, packetOfValid, packetInvalid, blankPacket, cmdOperand, auxOperand, hcmd, codeButton,
    rawOperand_eq_toNat hlegal]

theorem decodePacket_of_servoZ (hlegal : c.legal = true) (hcmd : f.read 2 = codeServoZ) :
    decodePacket c f = { blankPacket true 0x06 with rightZ := remapValue (f.read 3) } := by
  have harm : packetOfCommand c f = packetServoZ c f := by
    simp [packetOfCommand, hcmd, codeJoystick, codeButton, codeHeartbeat, codeEstop, codeAnnounceCapabilities, codeServoZ]
  rw [decodePacket_of_valid c hvalid, harm]
  simp [packetServoZ, packetOfValid, packetInvalid, blankPacket, cmdOperand, hcmd, codeServoZ,
    remappedOperand_eq_remapValue hlegal]

/-- Outside the three arms that populate fields, `valid` and `cmd` alone are set, at every width (R69 to R71, R73, R74). -/
theorem decodePacket_of_bareCommand (hjoy : f.read 2 ≠ codeJoystick) (hbtn : f.read 2 ≠ codeButton)
    (hsrv : f.read 2 ≠ codeServoZ) : decodePacket c f = blankPacket true (f.read 2) := by
  rw [decodePacket_of_valid c hvalid]
  rcases packetOfCommand_cases c f with ⟨hcmd, _⟩ | ⟨hcmd, _⟩ | ⟨hcmd, _⟩ | ⟨_, _, _, e⟩
  · exact absurd hcmd hjoy
  · exact absurd hcmd hbtn
  · exact absurd hcmd hsrv
  · exact e

end ValidFrame

/-- Settles O17: each of the four kinds of arm leaves the fields of the others at the zeros that every valid frame starts from. -/
theorem unpopulatedFieldsAreZero : Obligations.UnpopulatedFieldsAreZero := by
  intro c f hvalid
  rw [decodePacket_of_valid c hvalid]
  rcases packetOfCommand_cases c f with ⟨hcmd, e⟩ | ⟨hcmd, e⟩ | ⟨hcmd, e⟩ | ⟨_, _, _, e⟩ <;> rw [e]
  · exact ⟨fun hjoy _ => absurd hcmd hjoy, fun hjoy => absurd hcmd hjoy, fun _ => rfl⟩
  · exact ⟨fun _ hbtn => absurd hcmd hbtn, fun _ => ⟨rfl, rfl⟩, fun _ => rfl⟩
  · exact ⟨fun _ _ => ⟨rfl, rfl, rfl⟩, fun _ => ⟨rfl, rfl⟩, fun hsrv => absurd hcmd hsrv⟩
  · exact ⟨fun _ _ => ⟨rfl, rfl, rfl⟩, fun _ => ⟨rfl, rfl⟩, fun _ => rfl⟩

/-- Settles O18: the code 0x00 populates no field, so the valid packet is the zero packet but for `valid`. -/
theorem commandZeroDiffersFromInvalidOnlyInValid : Obligations.CommandZeroDiffersFromInvalidOnlyInValid := by
  intro c f g hvalid hcmd hinvalid
  have hblank : decodePacket c f = blankPacket true 0x00 := by
    rw [decodePacket_of_bareCommand hvalid (by rw [hcmd]; decide) (by rw [hcmd]; decide) (by rw [hcmd]; decide), hcmd]
    rfl
  rw [decodePacket_of_invalid c hinvalid, hblank]
  exact ⟨rfl, rfl⟩

/-! ### A frame command is DECODE of its frame (R48, R52, R63) -/

section FrameCommand
variable {i : Instr} {f : Frame} (hencode : encode i = some f)
include hencode

theorem drivenFrame_of_encode : drivenFrame i = some f := by
  cases i with
  | validate | checksum | decode | remap | encodeTelemetry => cases hencode
  | _ => exact hencode

theorem readingOf_of_encode (o : Outputs) : readingOf i o = .packet o.pkt := by
  cases i with
  | validate | checksum | decode | remap | encodeTelemetry => cases hencode
  | _ => rfl

theorem exec_eq_exec_decode_of_encode (s : State) : exec i s = exec (.decode f) s := by
  have hframe : drivenFrame i = some f := drivenFrame_of_encode hencode
  have hdecode : drivenFrame (.decode f) = some f := rfl
  rw [exec_eq_transact (ne_remap_of_drivenFrame hframe), exec_eq_transact (ne_remap_of_drivenFrame hdecode)]
  unfold transact
  rw [drivenInputs_of_drivenFrame hframe, drivenInputs_of_drivenFrame hdecode, readingOf_of_encode hencode]
  rfl

end FrameCommand

/-- Settles O24: the decoder's instruction encodes back to the frame, so it is a frame command of that frame. -/
theorem armsAreWhatDecodeDoes : Obligations.ArmsAreWhatDecodeDoes := by
  intro f s
  obtain ⟨_, hencode⟩ := decodedFramesEncodeBack f
  exact exec_eq_exec_decode_of_encode hencode s

/-! ### The whole effect of DECODE and of the frame commands, where an evaluation shows its result -/

section Shown
variable {f : Frame} {s : State} {p : Packet} (hshows : s.Shows) (hpacket : decodePacket s.cfg f = p)
include hshows hpacket

theorem exec_decode_of_shows : exec (.decode f) s = .next (s.shownFrame f p (.packet p)) := by
  subst hpacket
  exact exec_eq_shownFrame rfl hshows

theorem exec_of_encode {i : Instr} (hencode : encode i = some f) : exec i s = .next (s.shownFrame f p (.packet p)) := by
  rw [exec_eq_exec_decode_of_encode hencode]
  exact exec_decode_of_shows hshows hpacket

/-- A well-formed frame command is what its frame decodes to, and shows the packet of that frame. -/
theorem frameCommand_result {i : Instr} (hwf : i.wellFormed = true) (hencode : encode i = some f) :
    decodeFrame f = i ∧ exec i s = .next (s.shownFrame f p (.packet p)) :=
  ⟨encodedFramesDecodeBack i f hwf hencode, exec_of_encode hshows hpacket hencode⟩

end Shown

/-- Settles O15: the packet is that of the arm that byte 2 selects, or the zero packet. -/
theorem decodeResult : Obligations.DecodeResult := by
  intro f s hlegal hshows
  refine ⟨decodePacket s.cfg f, exec_decode_of_shows hshows rfl, fun hwf => ?invalid, fun hwf => ?valid⟩
  case invalid =>
    rw [frameWellFormed_iff, Bool.not_eq_true] at hwf
    exact decodePacket_of_invalid s.cfg hwf
  case valid =>
    have hvalid : frameValid f = true := (frameWellFormed_iff f).1 hwf
    exact ⟨decodePacket_of_joystick hvalid hlegal, decodePacket_of_button hvalid hlegal,
      decodePacket_of_servoZ hvalid hlegal, decodePacket_of_bareCommand hvalid⟩

/-- Settles O16: a frame that fails a test takes no arm, so none of its bytes reaches the packet. -/
theorem invalidResult : Obligations.InvalidResult := by
  intro f s hwf hshows
  rw [frameWellFormed_iff, Bool.not_eq_true] at hwf
  have hpacket : decodePacket s.cfg f = blankPacket false 0x00 := decodePacket_of_invalid s.cfg hwf
  exact ⟨exec_of_encode hshows hpacket rfl, exec_decode_of_shows hshows hpacket⟩

/-- Settles O19: the made frame's bytes 3 to 6 are remapped, and byte 7 is taken as it is. -/
theorem joystickResult : Obligations.JoystickResult := by
  intro dev p0 p1 p2 p3 p4 s hlegal hshows
  exact frameCommand_result hshows (decodePacket_of_joystick (frameValid_mkFrame ..) hlegal rfl) rfl rfl

/-- Settles O20: at a legal width the zero extension of a byte is never negative. -/
theorem buttonResult : Obligations.ButtonResult := by
  intro dev p0 p1 p2 p3 p4 s hlegal hshows
  have hpacket := decodePacket_of_button (frameValid_mkFrame dev codeButton p0 p1 p2 p3 p4) hlegal rfl
  obtain ⟨hdecode, hexec⟩ := frameCommand_result hshows hpacket (i := .button dev p0 p1 p2 p3 p4) rfl rfl
  exact ⟨hdecode, hexec, (rawOperand_eq_toNat hlegal p0).symm⟩

/-- Settles O22: byte 3 is remapped into `rightZ`. -/
theorem servoZResult : Obligations.ServoZResult := by
  intro dev p0 p1 p2 p3 p4 s hlegal hshows
  exact frameCommand_result hshows (decodePacket_of_servoZ (frameValid_mkFrame ..) hlegal rfl) rfl rfl

theorem decodePacket_mkFrame_of_bareCommand {c : Config} {dev cmd p0 p1 p2 p3 p4 : Byte} (hjoy : cmd ≠ codeJoystick)
    (hbtn : cmd ≠ codeButton) (hsrv : cmd ≠ codeServoZ) :
    decodePacket c (mkFrame dev cmd p0 p1 p2 p3 p4) = blankPacket true cmd :=
  decodePacket_of_bareCommand (frameValid_mkFrame ..) hjoy hbtn hsrv

/-- Settles O21: none of the four codes is that of an arm that populates fields. -/
theorem bareCommandResults : Obligations.BareCommandResults := by
  intro dev p0 p1 p2 p3 p4 s hshows
  refine ⟨?heartbeat, ?estop, ?announceCapabilities, ?telemetry⟩ <;>
    exact frameCommand_result hshows (decodePacket_mkFrame_of_bareCommand (by decide) (by decide) (by decide)) rfl rfl

/-- Settles O23: a code outside the enumeration makes OTHER well-formed, and is not that of an arm that populates fields. -/
theorem otherResult : Obligations.OtherResult := by
  intro dev cmd p0 p1 p2 p3 p4 s hcode hshows
  have hunassigned : cmd ∉ assignedCodes := hcode
  have hother : isOtherCode cmd = true := by simpa [isOtherCode] using hunassigned
  obtain ⟨hjoy, hbtn, _, _, _, hsrv, _⟩ := (isOtherCode_iff cmd).1 hother
  exact frameCommand_result hshows (decodePacket_mkFrame_of_bareCommand hjoy hbtn hsrv) hother rfl

end Sys2Proof.Machine

/-! ## The axis remapper (42_axis_remapper.md) -/

namespace Sys2Proof.Machine

/-! ### The remap as a function of the byte (R77, R79) -/

theorem remapValue_add_offset (b : Byte) : remapValue b + 100 = min (b.toNat : Int) 200 := Int.sub_add_cancel _ _

theorem remapValue_of_le {b : Byte} (h : b.toNat ≤ 200) : remapValue b = (b.toNat : Int) - 100 := by
  unfold remapValue
  omega

theorem remapValue_of_ge {b : Byte} (h : 200 ≤ b.toNat) : remapValue b = 100 := by
  unfold remapValue
  omega

theorem remapValue_mono {a b : Byte} (h : a.toNat ≤ b.toNat) : remapValue a ≤ remapValue b := by
  unfold remapValue
  omega

theorem remapValue_injOn {a b : Byte} (ha : a.toNat ≤ 200) (hb : b.toNat ≤ 200) (h : remapValue a = remapValue b) : a = b := by
  rw [remapValue_of_le ha, remapValue_of_le hb] at h
  exact BitVec.eq_of_toNat_eq (by omega)

/-- Every value of the remap is reached, at the byte `v + 100` (R79). -/
theorem exists_remapValue_eq {v : Int} (hlo : -100 ≤ v) (hhi : v ≤ 100) :
    ∃ b : Byte, (b.toNat : Int) = v + 100 ∧ remapValue b = v := by
  let b : Byte := BitVec.ofNatLT (v + 100).toNat (by omega)
  have hb : (b.toNat : Int) = v + 100 := Int.toNat_of_nonneg (by omega)
  exact ⟨b, hb, by rw [remapValue_of_le (by omega), hb, Int.add_sub_cancel]⟩

/-! ### REMAP and its two forms (R77 to R80) -/

/-- REMAP drives the stand-alone remapper and reads its value: nothing else of the state is written (R17, R52; log 7). -/
theorem exec_remap (raw : Byte) (s : State) :
    exec (.remap raw) s =
      .next { s with
        remapRaw := raw
        remapVal := remappedOperand s.cfg raw
        results := s.results ++ [.val (remappedOperand s.cfg raw)] } := rfl

/-- Settles O27: at a legal width the remapper's value is the remap of the byte, and its port gives it back. -/
theorem remapResult : Obligations.RemapResult := by
  intro raw s hlegal
  obtain ⟨_, hval, _, _, _, _, hbits⟩ := operandForms s.cfg raw hlegal
  have hexec := exec_remap raw s
  rw [hval] at hexec hbits
  exact ⟨hexec, hbits⟩

/-- Settles O28: the product is a multiple of 200, so neither division has anything to round. -/
theorem remapNeedsNoRounding : Obligations.RemapNeedsNoRounding := by
  intro c raw hlegal
  have hval : remappedOperand c raw = -100 + min (raw.toNat : Int) 200 := by
    rw [remappedOperand_eq_remapValue hlegal, remapValue, sub_eq_neg_add]
  rw [Int.mul_tdiv_cancel _ (by decide), Int.mul_fdiv_cancel _ (by decide)]
  exact ⟨hval, hval⟩

/-- Settles O29: at a legal width the operand is `remapValue`, which clamps at 200. -/
theorem remapProperties : Obligations.RemapProperties := by
  intro c hlegal
  simp only [remappedOperand_eq_remapValue hlegal]
  exact ⟨remapValue_bounds, fun _ => exists_remapValue_eq, fun _ _ => remapValue_mono, fun _ _ => remapValue_injOn,
    fun _ => remapValue_of_ge, remapValue_add_offset⟩

/-- Settles O30: both forms are the two's complement of `remapValue`, which the table lists and which is 100 from 200 on. -/
theorem remapFormsAgree : Obligations.RemapFormsAgree := by
  refine ⟨?sameBits, remapTable_getD, ?zero16, ?zero9, ?centre16, ?saturated⟩
  case sameBits => exact fun w raw => (remapLinear_eq_ofInt w raw).trans (remapLut_eq_ofInt w raw).symm
  case zero16 => exact remapLut_eq_ofInt 16 0
  case zero9 => exact remapLut_eq_ofInt 9 0
  case centre16 => exact remapLut_eq_ofInt 16 100
  case saturated =>
    intro raw hraw
    rw [remapLut_eq_ofInt, remapValue_of_ge hraw]
    rfl

end Sys2Proof.Machine

/-! ## The telemetry encoder (43_telemetry_encoder.md) -/

namespace Sys2Proof.Machine

/-! ### The frame that ENCODE_TELEMETRY writes (R81, R82, R88 to R92) -/

section TelemetryFrame
variable (c : Config) (dev : Byte) (voltage : BitVec 32) (flags : Byte) (cnt : BitVec 32)

/-- The frame is made as MKFRAME makes one: the encoder's XOR tree is over the bytes it has written (R53, R91). -/
theorem telemetryFrame_eq_mkFrame :
    telemetryFrame c dev voltage flags cnt = mkFrame dev codeTelemetry (voltByte c voltage) flags (cnt.extractLsb' 0 8) 0 0 := rfl

theorem telemetryFrame_read_voltage : (telemetryFrame c dev voltage flags cnt).read 3 = voltByte c voltage := rfl

/-- The ten bytes written out (R81); the two zero bytes drop out of the checksum (R91). -/
theorem telemetryFrame_eq_bytes :
    telemetryFrame c dev voltage flags cnt =
      #v[0xAA, dev, 0x10, voltByte c voltage, flags, cnt.setWidth 8, 0x00, 0x00,
        dev ^^^ 0x10#8 ^^^ voltByte c voltage ^^^ flags ^^^ cnt.setWidth 8, 0x55] := by
  rw [telemetryFrame_eq_mkFrame, ← BitVec.setWidth_eq_extractLsb' (by decide)]
  simp [mkFrame, xorTree, startByte, endByte, codeTelemetry]

end TelemetryFrame

/-- Settles O33: the frame is made of these bytes, and two of the seven that the checksum takes are zero. -/
theorem telemetryFrameBytes : Obligations.TelemetryFrameBytes := by
  intro c dev voltage flags cnt
  rw [telemetryFrame_eq_mkFrame]
  simp [xorTree, startByte, endByte, codeTelemetry]

/-! ### ENCODE_TELEMETRY as a transaction (R81, R93, R94) -/

/-- Settles O34: the transaction shows the function of the four values driven, and of the frame that stood on `dec_frame`. -/
theorem encodeTelemetryResult : Obligations.EncodeTelemetryResult := by
  intro dev voltage flags cnt s hshows
  dsimp only
  rw [exec_eq_transact (by simp), transact_of_shows _ hshows, ← telemetryFrame_eq_bytes]
  rfl

theorem decodePacket_telemetryFrame (c : Config) (dev : Byte) (voltage : BitVec 32) (flags : Byte) (cnt : BitVec 32) :
    decodePacket c (telemetryFrame c dev voltage flags cnt) = blankPacket true 0x10 :=
  decodePacket_mkFrame_of_bareCommand (by decide) (by decide) (by decide)

/-- Settles O40: the frame is a made one, so it is valid, and the TELEMETRY arm populates no field. -/
theorem telemetryRoundTrip : Obligations.TelemetryRoundTrip := by
  intro dev voltage flags cnt s hshows
  have hvalid : frameWellFormed (telemetryFrame s.cfg dev voltage flags cnt) :=
    (frameWellFormed_iff _).2 (frameValid_mkFrame ..)
  have hencode := exec_eq_transact (i := .encodeTelemetry dev voltage flags cnt) (by simp) s
  rw [transact_of_shows _ hshows] at hencode
  exact ⟨_, _, hencode, hvalid, exec_decode_of_shows hshows (decodePacket_telemetryFrame ..), rfl⟩

/-- Settles O45: the transaction drives the `tel_*` ports alone, and settled outputs of the decode path follow the frame that
stood on `dec_frame` before and stands there after. -/
theorem encodeTelemetryKeepsTheRest : Obligations.EncodeTelemetryKeepsTheRest := by
  intro dev voltage flags cnt s
  obtain ⟨hraw, hval, hprogram, hresults⟩ := transact_keeps (.encodeTelemetry dev voltage flags cnt) s
  refine ⟨transact (.encodeTelemetry dev voltage flags cnt) s, exec_eq_transact (by simp) s, transact_cfg _ s, ?rst, ?decFrame,
    hraw, hval, hprogram, hresults, ?decodePath⟩
  case rst => rw [transact_inp, drivenInputs_rst]
  case decFrame => exact fun k => by rw [transact_inp]; rfl
  case decodePath =>
    intro hinv hfollows
    have hshows : s.Shows := .inl hfollows.1
    rw [transact_of_shows _ hshows, hinv.follows hfollows]
    rfl

end Sys2Proof.Machine

/-! ## The voltage byte (43_telemetry_encoder.md R83 to R87, 00_scope.md R6, R7) -/

namespace Sys2Proof.Machine

/-! ### The fields of a binary32 pattern (R87) -/

theorem floatExp_eq_ieeeExponent (f : BitVec 32) : floatExp f = ieeeExponent f := by
  simp [floatExp, ieeeExponent, Nat.shiftRight_eq_div_pow]

theorem floatFrac_eq_ieeeFraction (f : BitVec 32) : floatFrac f = ieeeFraction f := by
  simp [floatFrac, ieeeFraction]

theorem floatSign_eq (f : BitVec 32) : floatSign f = decide (0x80000000 ≤ f.toNat) := BitVec.msb_eq_decide f

/-- The NaN patterns lie above the infinity of their sign. -/
theorem ieeeNaN_iff (f : BitVec 32) :
    ieeeExponent f = 255 ∧ ieeeFraction f ≠ 0 ↔ (0x7F800000 < f.toNat ∧ f.toNat < 0x80000000) ∨ 0xFF800000 < f.toNat := by
  have hlt := f.isLt
  unfold ieeeExponent ieeeFraction
  omega

theorem floatIsNaN_iff (f : BitVec 32) :
    floatIsNaN f = true ↔ (0x7F800000 < f.toNat ∧ f.toNat < 0x80000000) ∨ 0xFF800000 < f.toNat := by
  rw [← ieeeNaN_iff, ← floatExp_eq_ieeeExponent, ← floatFrac_eq_ieeeFraction]
  simp [floatIsNaN]

/-- The magnitude that an exponent and a fraction denote, in units of 2^-149 (R87). -/
def fieldUnits (e m : Nat) : Nat := if e = 0 then m else (2 ^ 23 + m) * 2 ^ (e - 1)

/-- The magnitude of the pattern `n`, whose sign bit is 0. -/
def patternUnits (n : Nat) : Nat := fieldUnits (n / 2 ^ 23) (n % 2 ^ 23)

theorem floatUnits_eq_patternUnits {f : BitVec 32} (h : f.toNat < 0x80000000) : floatUnits f = patternUnits f.toNat := by
  have hexp : floatExp f = f.toNat / 2 ^ 23 := by
    rw [floatExp_eq_ieeeExponent, ieeeExponent]
    omega
  rw [patternUnits, ← hexp, ← ieeeFraction, ← floatFrac_eq_ieeeFraction]
  rfl

theorem fieldUnits_le_succ (e m : Nat) : fieldUnits e m ≤ fieldUnits e (m + 1) := by
  unfold fieldUnits
  split
  · exact Nat.le_succ m
  · gcongr
    exact Nat.le_succ m

/-- The last value of a binade is at most the first of the next. -/
theorem fieldUnits_le_next_binade (e : Nat) : fieldUnits e (2 ^ 23 - 1) ≤ fieldUnits (e + 1) 0 := by
  cases e with
  | zero => decide
  | succ k =>
    simp only [fieldUnits, Nat.succ_ne_zero, if_false, Nat.add_sub_cancel, pow_succ 2 k]
    omega

/-- Patterns whose sign bit is 0 are in the order of their magnitudes. -/
theorem patternUnits_mono : Monotone patternUnits := by
  refine monotone_nat_of_le_succ fun n => ?_
  unfold patternUnits
  by_cases hlast : n % 2 ^ 23 = 2 ^ 23 - 1
  · have hexp : (n + 1) / 2 ^ 23 = n / 2 ^ 23 + 1 := by omega
    have hfrac : (n + 1) % 2 ^ 23 = 0 := by omega
    rw [hexp, hfrac, hlast]
    exact fieldUnits_le_next_binade _
  · have hexp : (n + 1) / 2 ^ 23 = n / 2 ^ 23 := by omega
    have hfrac : (n + 1) % 2 ^ 23 = n % 2 ^ 23 + 1 := by omega
    rw [hexp, hfrac]
    exact fieldUnits_le_succ _ _

theorem floatUnits_mono {f g : BitVec 32} (h : f.toNat ≤ g.toNat) (hg : g.toNat < 0x80000000) :
    floatUnits f ≤ floatUnits g := by
  rw [floatUnits_eq_patternUnits hg, floatUnits_eq_patternUnits (h.trans_lt hg)]
  exact patternUnits_mono h

/-! ### RNE32 (R7) -/

/-- The integer nearest to `q / d`, the even one of two: what `rne32` makes of the quotient (R7). -/
def nearestEven (d q : Nat) : Nat :=
  if decide (d < 2 * (q % d)) || (decide (2 * (q % d) = d) && decide (q / d % 2 = 1)) then q / d + 1 else q / d

theorem rne32_eq (q : Nat) : rne32 q = nearestEven (2 ^ (Nat.log2 q - 23)) q * 2 ^ (Nat.log2 q - 23) := rfl

section NearestEven
variable {d : Nat} (hd : 0 < d)
include hd

/-- Below a half the quotient stays, above it goes up, and at a half it goes up only if it is odd. -/
theorem nearestEven_near (q : Nat) :
    |(q : ℚ) / d - nearestEven d q| < 1 / 2 ∨ (|(q : ℚ) / d - nearestEven d q| = 1 / 2 ∧ Even (nearestEven d q)) := by
  have hdpos : (0 : ℚ) < d := by exact_mod_cast hd
  have hquot : (q : ℚ) / d = (q / d : Nat) + (q % d : Nat) / d := by
    rw [div_eq_iff hdpos.ne', add_mul, div_mul_cancel₀ _ hdpos.ne']
    exact_mod_cast (Nat.div_add_mod' q d).symm
  rw [hquot]
  rcases lt_trichotomy (2 * (q % d)) d with hbelow | htie | habove
  · have hr : nearestEven d q = q / d := by simp [nearestEven, hbelow.le, hbelow.ne]
    have hfrac : ((q % d : Nat) : ℚ) / d < 1 / 2 := by
      rw [div_lt_div_iff₀ hdpos two_pos]
      exact_mod_cast (by omega : q % d * 2 < 1 * d)
    rw [hr, add_sub_cancel_left, abs_of_nonneg (by positivity)]
    exact .inl hfrac
  · have hfrac : ((q % d : Nat) : ℚ) / d = 1 / 2 := by
      rw [div_eq_div_iff hdpos.ne' two_ne_zero]
      exact_mod_cast (by omega : q % d * 2 = 1 * d)
    rw [hfrac]
    rcases Nat.mod_two_eq_zero_or_one (q / d) with heven | hodd
    · have hr : nearestEven d q = q / d := by simp [nearestEven, htie, heven]
      rw [hr]
      exact .inr ⟨by norm_num, Nat.even_iff.2 heven⟩
    · have hr : nearestEven d q = q / d + 1 := by simp [nearestEven, htie, hodd]
      rw [hr]
      exact .inr ⟨by push_cast; norm_num, (Nat.odd_iff.2 hodd).add_one⟩
  · have hr : nearestEven d q = q / d + 1 := by simp [nearestEven, habove]
    have hfrac : 1 / 2 < ((q % d : Nat) : ℚ) / d := by
      rw [div_lt_div_iff₀ two_pos hdpos]
      exact_mod_cast (by omega : 1 * d < q % d * 2)
    have hlt : ((q % d : Nat) : ℚ) / d < 1 := (div_lt_one hdpos).2 (by exact_mod_cast Nat.mod_lt q hd)
    rw [hr, abs_lt]
    push_cast
    exact .inl ⟨by linarith, by linarith⟩

/-- Numbers that are in order lie too far apart to be nearest to integers that are not. -/
theorem nearestEven_mono : Monotone (nearestEven d) := by
  intro q q' h
  by_contra hlt
  have hgap : (nearestEven d q' : ℚ) + 1 ≤ nearestEven d q := by exact_mod_cast Nat.not_le.1 hlt
  have hquot : (q : ℚ) / d < q' / d := by
    gcongr
    exact h.lt_of_ne fun heq => hlt (heq ▸ le_rfl)
  have hclose (n : Nat) : |(n : ℚ) / d - nearestEven d n| ≤ 1 / 2 := (nearestEven_near hd n).elim le_of_lt (·.1.le)
  have hq := abs_le.1 (hclose q)
  have hq' := abs_le.1 (hclose q')
  linarith

theorem nearestEven_mul_self (k : Nat) : nearestEven d (k * d) = k := by
  simp [nearestEven, hd.ne, Nat.mul_div_cancel _ hd]

end NearestEven

/-- A rounded number stays within its binade, or reaches the next power of two. -/
theorem rne32_mem_binade {q : Nat} (hq : 2 ^ 23 ≤ q) : 2 ^ Nat.log2 q ≤ rne32 q ∧ rne32 q ≤ 2 ^ (Nat.log2 q + 1) := by
  have hne : q ≠ 0 := by omega
  obtain ⟨s, hs⟩ := Nat.exists_eq_add_of_le' ((Nat.le_log2 hne).2 hq)
  have hpos : 0 < 2 ^ s := Nat.two_pow_pos s
  have hlow : 2 ^ Nat.log2 q = 2 ^ 23 * 2 ^ s := by rw [hs, add_comm, pow_add]
  have hhigh : 2 ^ (Nat.log2 q + 1) = 2 ^ 24 * 2 ^ s := by rw [hs, add_assoc, add_comm, pow_add]
  have hge := nearestEven_mono hpos (hlow.symm.trans_le (Nat.log2_self_le hne))
  have hle := nearestEven_mono hpos (Nat.lt_log2_self.le.trans_eq hhigh)
  rw [nearestEven_mul_self hpos] at hge hle
  rw [rne32_eq, hlow, hhigh, hs, Nat.add_sub_cancel]
  exact ⟨Nat.mul_le_mul_right _ hge, Nat.mul_le_mul_right _ hle⟩

theorem rne32_mono {q q' : Nat} (hq : 2 ^ 23 ≤ q) (h : q ≤ q') : rne32 q ≤ rne32 q' := by
  have hlog : Nat.log2 q ≤ Nat.log2 q' := (Nat.le_log2 (by omega)).2 ((Nat.log2_self_le (by omega)).trans h)
  rcases hlog.eq_or_lt with heq | hlt
  · rw [rne32_eq, rne32_eq, ← heq]
    gcongr
    exact nearestEven_mono (Nat.two_pow_pos _) h
  · calc rne32 q ≤ 2 ^ (Nat.log2 q + 1) := (rne32_mem_binade hq).2
      _ ≤ 2 ^ Nat.log2 q' := Nat.pow_le_pow_right (by decide) hlt
      _ ≤ rne32 q' := (rne32_mem_binade (hq.trans h)).1

/-! ### The byte of a clamped voltage (R86) -/

/-- The product with both of R86's conditions for rounding in one. -/
theorem voltProduct_eq (c : Config) (x : Nat) :
    voltProduct c x =
      if c.voltMul = .binary32 ∧ 2 ^ 23 ≤ voltScale * x then rne32 (voltScale * x) else voltScale * x := by
  unfold voltProduct
  cases c.voltMul <;> simp

theorem voltProduct_mono (c : Config) : Monotone (voltProduct c) := by
  intro x x' h
  have hq : voltScale * x ≤ voltScale * x' := Nat.mul_le_mul_left _ h
  rw [voltProduct_eq, voltProduct_eq]
  split_ifs with hround hround' hround'
  · exact rne32_mono hround.2 hq
  · exact absurd ⟨hround.1, hround.2.trans hq⟩ hround'
  · have hsmall : voltScale * x < 2 ^ 23 := Nat.not_le.1 fun hlarge => hround ⟨hround'.1, hlarge⟩
    calc voltScale * x ≤ 2 ^ 23 := hsmall.le
      _ ≤ rne32 (2 ^ 23) := (rne32_mem_binade le_rfl).1
      _ ≤ rne32 (voltScale * x') := rne32_mono le_rfl hround'.2
  · exact hq

theorem voltConvert_mono (c : Config) : Monotone (voltConvert c) := by
  intro p p' h
  unfold voltConvert
  cases c.voltRound with
  | trunc => exact Nat.div_le_div_right h
  | nearest => exact Nat.div_le_div_right (by omega)

/-- The product 250 is a binary32 value, so rounding does not move it. -/
theorem voltProduct_max (c : Config) : voltProduct c (voltMax * unitsPerVolt) = 250 * unitsPerVolt := by
  have hround : rne32 (voltScale * (voltMax * unitsPerVolt)) = voltScale * (voltMax * unitsPerVolt) := by decide
  rw [voltProduct_eq, hround, ite_self]
  rfl

theorem voltProduct_zero (c : Config) : voltProduct c 0 = 0 := by simp [voltProduct_eq]

/-- Neither conversion moves a whole number. -/
theorem voltConvert_whole (c : Config) (k : Nat) : voltConvert c (k * unitsPerVolt) = k := by
  have hpos : 0 < unitsPerVolt := Nat.two_pow_pos 149
  unfold voltConvert
  cases c.voltRound with
  | trunc => exact Nat.mul_div_cancel k hpos
  | nearest => exact Nat.div_eq_of_lt_le (by linarith) (by linarith)

theorem voltConvert_voltProduct_max (c : Config) : voltConvert c (voltProduct c (voltMax * unitsPerVolt)) = 250 := by
  rw [voltProduct_max, voltConvert_whole]

theorem voltConvert_voltProduct_le {x : Nat} (c : Config) (h : x ≤ voltMax * unitsPerVolt) :
    voltConvert c (voltProduct c x) ≤ 250 :=
  (voltConvert_mono c (voltProduct_mono c h)).trans_eq (voltConvert_voltProduct_max c)

/-- The byte of a clamped voltage never wraps (R86). -/
theorem voltByteOf_toNat {x : Nat} (c : Config) (h : x ≤ voltMax * unitsPerVolt) :
    (voltByteOf c x).toNat = voltConvert c (voltProduct c x) := by
  have hle := voltConvert_voltProduct_le c h
  rw [voltByteOf, BitVec.toNat_ofNat]
  exact Nat.mod_eq_of_lt (by omega)

theorem voltByteOf_max (c : Config) : voltByteOf c (voltMax * unitsPerVolt) = 250#8 := by
  rw [voltByteOf, voltConvert_voltProduct_max]

theorem voltByteOf_zero (c : Config) : voltByteOf c 0 = 0x00#8 := by
  have hzero : voltConvert c 0 = 0 := by simpa using voltConvert_whole c 0
  rw [voltByteOf, voltProduct_zero, hzero]

theorem voltByteOf_mono {x x' : Nat} (c : Config) (h : x ≤ x') (hmax : x' ≤ voltMax * unitsPerVolt) :
    (voltByteOf c x).toNat ≤ (voltByteOf c x').toNat := by
  rw [voltByteOf_toNat c (h.trans hmax), voltByteOf_toNat c hmax]
  exact voltConvert_mono c (voltProduct_mono c h)

/-! ### The branches of the rule, by the order of the patterns (R83 to R86) -/

theorem voltByte_of_nan (c : Config) {f : BitVec 32}
    (h : (0x7F800000 < f.toNat ∧ f.toNat < 0x80000000) ∨ 0xFF800000 < f.toNat) : voltByte c f = c.voltNanByte :=
  if_pos ((floatIsNaN_iff f).2 h)

/-- -0, the negative values and -infinity (R84). -/
theorem voltByte_of_negative (c : Config) {f : BitVec 32} (hsign : 0x80000000 ≤ f.toNat) (hinf : f.toNat ≤ 0xFF800000) :
    voltByte c f = 0x00#8 := by
  have hnan : ¬ floatIsNaN f = true := by
    rw [floatIsNaN_iff]
    omega
  simp [voltByte, voltAboveMax, voltNotPositive, floatSign_eq, hnan, hsign]

/-- From +0 to +infinity the rule is the conversion of the voltage clamped at 25.0: the magnitude of infinity is above that, and
the conversion of 0 is 0 (R83, R84, R86). -/
theorem voltByte_of_nonneg (c : Config) {f : BitVec 32} (h : f.toNat ≤ 0x7F800000) :
    voltByte c f = voltByteOf c (min (floatUnits f) (voltMax * unitsPerVolt)) := by
  have hnan : ¬ floatIsNaN f = true := by
    rw [floatIsNaN_iff]
    omega
  have hsign : floatSign f = false := by
    rw [floatSign_eq, decide_eq_false_iff_not]
    omega
  have hinf : floatIsInf f = true → voltMax * unitsPerVolt < floatUnits f := by
    simp only [floatIsInf, Bool.and_eq_true, beq_iff_eq]
    rintro ⟨hexp, hfrac⟩
    rw [floatUnits, hexp, hfrac]
    decide
  have habove : voltAboveMax f = decide (voltMax * unitsPerVolt < floatUnits f) := by
    simpa [voltAboveMax, hsign] using hinf
  rcases lt_or_ge (voltMax * unitsPerVolt) (floatUnits f) with hmax | hmax
  · rw [min_eq_right hmax.le]
    simp [voltByte, hnan, habove, hmax]
  · rw [min_eq_left hmax]
    rcases Nat.eq_zero_or_pos (floatUnits f) with hzero | hpos
    · simp [voltByte, hnan, habove, voltNotPositive, hsign, hzero, voltByteOf_zero]
    · simp [voltByte, hnan, habove, voltNotPositive, hsign, hpos.ne', hmax]

/-- The pattern 0x41C80000 is 25.0. -/
theorem floatUnits_max : floatUnits 0x41C80000#32 = voltMax * unitsPerVolt := by decide

/-- From 25.0 to +infinity the clamp gives 25.0 (R83). -/
theorem voltByte_of_ge_max (c : Config) {f : BitVec 32} (hmax : 0x41C80000 ≤ f.toNat) (hinf : f.toNat ≤ 0x7F800000) :
    voltByte c f = 250#8 := by
  have hunits : voltMax * unitsPerVolt ≤ floatUnits f := by
    rw [← floatUnits_max]
    exact floatUnits_mono hmax (by omega)
  rw [voltByte_of_nonneg c hinf, min_eq_right hunits, voltByteOf_max]

/-- Settles O35: the voltage enters the frame in its byte alone, and that is 250 from 25.0 on. -/
theorem voltageAboveMaxSaturates : Obligations.VoltageAboveMaxSaturates := by
  intro c dev v flags cnt hmax hinf
  have hv : voltByte c v = 250#8 := voltByte_of_ge_max c hmax.le hinf
  have h25 : voltByte c 0x41C80000#32 = 250#8 := voltByte_of_ge_max c (by decide) (by decide)
  rw [telemetryFrame_eq_mkFrame, telemetryFrame_eq_mkFrame, hv, h25]
  exact ⟨rfl, rfl⟩

/-- Settles O36: +0 is a magnitude whose conversion is 0, and a sign bit selects the branch of 0. -/
theorem voltageAtOrBelowZeroGivesZero : Obligations.VoltageAtOrBelowZeroGivesZero := by
  intro c dev v flags cnt hv
  rw [telemetryFrame_read_voltage]
  rcases hv with hzero | ⟨hsign, hinf⟩
  · have hunits : floatUnits v = 0 := by
      rw [floatUnits_eq_patternUnits (by omega), hzero]
      rfl
    rw [voltByte_of_nonneg c (by omega), hunits, Nat.zero_min, voltByteOf_zero]
  · exact voltByte_of_negative c hsign hinf

/-- Settles O37: the patterns above an infinity are the NaNs. -/
theorem nanVoltageGivesTheNanByte : Obligations.NanVoltageGivesTheNanByte :=
  ⟨rfl, fun c _ _ _ _ hnan => voltByte_of_nan c hnan⟩

/-- Settles O39: the magnitude, the clamp, the product and the conversion are each monotone. -/
theorem voltageByteIsMonotone : Obligations.VoltageByteIsMonotone := by
  intro c f g hle hinf
  have hunits : floatUnits f ≤ floatUnits g := floatUnits_mono hle (by omega)
  rw [voltByte_of_nonneg c (hle.trans hinf), voltByte_of_nonneg c hinf]
  exact voltByteOf_mono c (min_le_min_right _ hunits) (min_le_right _ _)

/-! ### The voltage byte in exact rationals (R6, R7, R86, R87) -/

/-- A number of units of 2^-149, in volts. -/
def voltsOf (x : Nat) : ℚ := x / unitsPerVolt

theorem unitsPerVolt_pos : (0 : ℚ) < unitsPerVolt := by exact_mod_cast Nat.two_pow_pos 149

theorem voltsOf_eq_mul_zpow (x : Nat) : voltsOf x = x * (2 : ℚ) ^ (-149 : ℤ) := by
  rw [voltsOf, unitsPerVolt, div_eq_mul_inv, zpow_neg]
  norm_cast

theorem voltsOf_le_voltsOf {x y : Nat} : voltsOf x ≤ voltsOf y ↔ x ≤ y := by
  rw [voltsOf, voltsOf, div_le_div_iff_of_pos_right unitsPerVolt_pos, Nat.cast_le]

theorem voltsOf_whole (k : Nat) : voltsOf (k * unitsPerVolt) = k := by
  rw [voltsOf, Nat.cast_mul, mul_div_cancel_right₀ _ unitsPerVolt_pos.ne']

theorem voltsOf_zero : voltsOf 0 = 0 := by simp [voltsOf]

theorem voltsOf_max : voltsOf (voltMax * unitsPerVolt) = 25 := voltsOf_whole voltMax

theorem voltsOf_two_pow (k : Nat) : voltsOf (2 ^ k) = 2 ^ ((k : ℤ) - 149) := by
  rw [voltsOf_eq_mul_zpow, sub_eq_add_neg, zpow_add₀ two_ne_zero, zpow_natCast, Nat.cast_pow, Nat.cast_two]

/-- `val(f)` is the magnitude with the sign of the pattern. -/
theorem ieeeValue_eq (f : BitVec 32) : ieeeValue f = (-1) ^ ieeeSign f * voltsOf (floatUnits f) := by
  rw [voltsOf_eq_mul_zpow, floatUnits, floatExp_eq_ieeeExponent, floatFrac_eq_ieeeFraction, ieeeValue]
  split_ifs with hexp
  · rw [mul_assoc]
    norm_num
    ring
  · obtain ⟨k, hk⟩ := Nat.exists_eq_add_of_le' (Nat.pos_of_ne_zero hexp)
    have hscale : (2 : ℚ) ^ ((k + 1 : Nat) - 127 : ℤ) = 2 ^ k * 2 ^ 23 * 2 ^ (-149 : ℤ) := by
      rw [← zpow_natCast, ← zpow_natCast, ← zpow_add₀ two_ne_zero, ← zpow_add₀ two_ne_zero]
      congr 1
      push_cast
      ring
    rw [hk, hscale, Nat.add_sub_cancel]
    push_cast
    ring

/-- The model's rounding is RNE32 of the rational (R7). -/
theorem isRne32_voltsOf {q : Nat} (hq : 2 ^ 23 ≤ q) : IsRne32 (voltsOf q) (voltsOf (rne32 q)) := by
  have hne : q ≠ 0 := by omega
  obtain ⟨s, hs⟩ := Nat.exists_eq_add_of_le' ((Nat.le_log2 hne).2 hq)
  refine ⟨(Nat.log2 q : ℤ) - 149, nearestEven (2 ^ s) q, ?low, ?high, ?near, ?value⟩
  case low =>
    rw [← voltsOf_two_pow, voltsOf_le_voltsOf]
    exact Nat.log2_self_le hne
  case high =>
    rw [sub_add_eq_add_sub, ← Nat.cast_succ, ← voltsOf_two_pow, ← not_le, voltsOf_le_voltsOf, not_le]
    exact Nat.lt_log2_self
  case near =>
    have hquot : voltsOf q * (2 : ℚ) ^ (23 - ((Nat.log2 q : ℤ) - 149)) = q / (2 ^ s : Nat) := by
      rw [voltsOf_eq_mul_zpow, mul_assoc, ← zpow_add₀ two_ne_zero, hs, div_eq_mul_inv, Nat.cast_pow, ← zpow_natCast,
        ← zpow_neg]
      congr 2
      push_cast
      ring
    rw [hquot, Int.cast_natCast, Int.even_coe_nat]
    exact nearestEven_near (Nat.two_pow_pos s) q
  case value =>
    rw [rne32_eq, hs, Nat.add_sub_cancel, voltsOf_eq_mul_zpow, Nat.cast_mul, mul_assoc, Nat.cast_pow,
      ← zpow_natCast, Nat.cast_two, ← zpow_add₀ two_ne_zero, Int.cast_natCast]
    congr 2
    push_cast
    ring

/-- The least normal number, 2^-126, is 2^23 units, so both forms of the rule round the same products. -/
theorem isVoltProduct_voltsOf (c : Config) (x : Nat) : IsVoltProduct c (10 * voltsOf x) (voltsOf (voltProduct c x)) := by
  have hq : 10 * voltsOf x = voltsOf (voltScale * x) := by
    rw [voltsOf, voltsOf, voltScale]
    push_cast
    ring
  have hmin : (2 : ℚ) ^ (-126 : ℤ) ≤ voltsOf (voltScale * x) ↔ 2 ^ 23 ≤ voltScale * x := by
    rw [← voltsOf_le_voltsOf, voltsOf_two_pow]
    norm_num
  rw [hq, IsVoltProduct, voltProduct_eq]
  by_cases hround : c.voltMul = .binary32 ∧ 2 ^ 23 ≤ voltScale * x
  · rw [if_pos ⟨hround.1, hmin.2 hround.2⟩, if_pos hround]
    exact isRne32_voltsOf hround.2
  · rw [if_neg fun h => hround ⟨h.1, hmin.1 h.2⟩, if_neg hround]

theorem isVoltConversion_voltsOf (c : Config) (p : Nat) : IsVoltConversion c (voltsOf p) (voltConvert c p) := by
  unfold IsVoltConversion voltConvert
  cases c.voltRound with
  | trunc =>
    rw [voltsOf, Rat.floor_natCast_div_natCast]
    rfl
  | nearest =>
    have hhalf : voltsOf p + 1 / 2 = ((2 * p + unitsPerVolt : Nat) : ℚ) / (2 * unitsPerVolt : Nat) := by
      have hpos := unitsPerVolt_pos
      rw [voltsOf]
      push_cast
      field_simp
    dsimp only
    rw [hhalf, Rat.floor_natCast_div_natCast]
    rfl

/-- The two x-branches of the rule (R86). -/
theorem isVoltByteOf_voltsOf {x : Nat} (c : Config) (h : x ≤ voltMax * unitsPerVolt) :
    IsVoltByteOf c (voltsOf x) (voltByteOf c x) :=
  ⟨voltsOf (voltProduct c x), isVoltProduct_voltsOf c x, by
    rw [voltByteOf_toNat c h]
    exact isVoltConversion_voltsOf c _⟩

theorem isVoltByteOf_max (c : Config) : IsVoltByteOf c 25 (250#8) := by
  rw [← voltsOf_max, ← voltByteOf_max c]
  exact isVoltByteOf_voltsOf c le_rfl

section Ranges
variable (c : Config) {f : BitVec 32}

/-- A sign bit makes the rational value at most 0, or selects the branch of -infinity. -/
theorem isVoltByte_of_negative (hsign : 0x80000000 ≤ f.toNat) (hinf : f.toNat ≤ 0xFF800000) : IsVoltByte c f 0x00#8 := by
  have hieeeSign : ieeeSign f = 1 := by
    have hlt := f.isLt
    unfold ieeeSign
    omega
  have hvalue : ieeeValue f ≤ 0 := by
    have hnonneg : 0 ≤ voltsOf (floatUnits f) := div_nonneg (Nat.cast_nonneg _) unitsPerVolt_pos.le
    rw [ieeeValue_eq, hieeeSign]
    linarith
  have hmax : ¬ 25 < ieeeValue f := by linarith
  have hnotNaN : ¬ (ieeeExponent f = 255 ∧ ieeeFraction f ≠ 0) := by
    rw [ieeeNaN_iff]
    omega
  rw [IsVoltByte, if_neg hnotNaN]
  simp [hieeeSign, hvalue, hmax]

theorem isVoltByte_of_infinity (h : f.toNat = 0x7F800000) : IsVoltByte c f 250#8 := by
  simp [IsVoltByte, ieeeExponent, ieeeFraction, ieeeSign, h, isVoltByteOf_max]

/-- The clamp at 25.0 and the conversion of 0 take the place of the rule's branches on the value. -/
theorem isVoltByte_of_finite (h : f.toNat < 0x7F800000) :
    IsVoltByte c f (voltByteOf c (min (floatUnits f) (voltMax * unitsPerVolt))) := by
  have hexp : ieeeExponent f ≠ 255 := by
    unfold ieeeExponent
    omega
  have hieeeSign : ieeeSign f = 0 := Nat.div_eq_of_lt (by omega)
  have hvalue : ieeeValue f = voltsOf (floatUnits f) := by rw [ieeeValue_eq, hieeeSign, pow_zero, one_mul]
  unfold IsVoltByte
  rw [if_neg fun hnan => hexp hnan.1, if_neg fun hinf => hexp hinf.1, if_neg hexp, hvalue, ← voltsOf_max]
  split_ifs with habove hzero
  · rw [← not_le, voltsOf_le_voltsOf, not_le] at habove
    rw [min_eq_right habove.le]
    exact isVoltByteOf_voltsOf c le_rfl
  · rw [← voltsOf_zero, voltsOf_le_voltsOf, Nat.le_zero] at hzero
    rw [hzero, Nat.zero_min, voltByteOf_zero]
  · rw [not_lt, voltsOf_le_voltsOf] at habove
    rw [min_eq_left habove]
    exact isVoltByteOf_voltsOf c habove

end Ranges

/-- The model's byte is the rule's (R86). -/
theorem isVoltByte_voltByte (c : Config) (f : BitVec 32) : IsVoltByte c f (voltByte c f) := by
  by_cases hnan : ieeeExponent f = 255 ∧ ieeeFraction f ≠ 0
  · rw [IsVoltByte, if_pos hnan]
    exact voltByte_of_nan c ((ieeeNaN_iff f).1 hnan)
  have hrange := mt (ieeeNaN_iff f).2 hnan
  rcases lt_trichotomy f.toNat 0x7F800000 with hfinite | hinf | hnegative
  · rw [voltByte_of_nonneg c hfinite.le]
    exact isVoltByte_of_finite c hfinite
  · rw [voltByte_of_ge_max c (by omega) hinf.le]
    exact isVoltByte_of_infinity c hinf
  · rw [voltByte_of_negative c (by omega) (by omega)]
    exact isVoltByte_of_negative c (by omega) (by omega)

theorem voltByte_le (c : Config) {f : BitVec 32} (hnan : ¬ (ieeeExponent f = 255 ∧ ieeeFraction f ≠ 0)) :
    (voltByte c f).toNat ≤ 250 := by
  have hrange := mt (ieeeNaN_iff f).2 hnan
  rcases le_or_gt f.toNat 0x7F800000 with hnonneg | hnegative
  · rw [voltByte_of_nonneg c hnonneg, voltByteOf_toNat c (min_le_right _ _)]
    exact voltConvert_voltProduct_le c (min_le_right _ _)
  · rw [voltByte_of_negative c (by omega) (by omega)]
    decide

/-- Settles O38: each range of patterns takes the same branch in whole units of 2^-149 as in rationals. -/
theorem voltageByteMeetsTheRationalRule : Obligations.VoltageByteMeetsTheRationalRule :=
  fun c _ v _ _ => ⟨isVoltByte_voltByte c v, voltByte_le c⟩

end Sys2Proof.Machine

/-! ## Exceptions: causes of an invalid frame, and totality (R95, R96, R99) -/

namespace Sys2Proof.Machine

/-- A frame is invalid for at least one of three causes: its START, its END, or its checksum (R96, R99). -/
theorem frameValid_eq_false_iff_cause (f : Frame) :
    frameValid f = false ↔ f.read 0 ≠ 0xAA#8 ∨ f.read 9 ≠ 0x55#8 ∨
      f.read 8 ≠ f.read 1 ^^^ f.read 2 ^^^ f.read 3 ^^^ f.read 4 ^^^ f.read 5 ^^^ f.read 6 ^^^ f.read 7 := by
  rw [← Bool.not_eq_true, ← frameWellFormed_iff, frameWellFormed, not_and_or, not_and_or]

/-- Settles O13: the three bits are the three tests themselves, and an invalid frame fails one of them and takes no arm. -/
theorem causesAreReportedInParallel : Obligations.CausesAreReportedInParallel := by
  intro f s hshows
  refine ⟨_, exec_decode_of_shows hshows rfl, decide_eq_false_iff_not, decide_eq_false_iff_not, decide_eq_false_iff_not,
    ?validIffNoCause, ?zeroPacket, fun _ => rfl⟩
  case validIffNoCause =>
    simp only [State.shownFrame, decodePacket_valid, decide_eq_false_iff_not]
    exact frameValid_eq_false_iff_cause f
  case zeroPacket =>
    intro hinvalid
    exact decodePacket_of_invalid s.cfg ((decodePacket_valid s.cfg f).symm.trans hinvalid)

/-- Every instruction gives a next state (R95). -/
theorem exists_exec_eq_next (i : Instr) (s : State) : ∃ t, exec i s = .next t := by
  rcases remap_or_ne_remap i with ⟨raw, rfl⟩ | hi
  · exact ⟨_, exec_remap raw s⟩
  · exact ⟨_, exec_eq_transact hi s⟩

/-- Every step gives a next state: it runs an instruction, or is an act of the collaborator (R95; log 1). -/
theorem exists_step_eq_next (s : State) : ∃ t, step s = .next t := by
  unfold step
  split
  next => exact exists_exec_eq_next _ s
  next i rest _ => exact exists_exec_eq_next i (s.withProgram rest)
  all_goals exact ⟨_, rfl⟩

/-- Settles O41: every instruction answers a next state, so every step does. -/
theorem nothingEverStops : Obligations.NothingEverStops := ⟨exists_exec_eq_next, exists_step_eq_next⟩

end Sys2Proof.Machine

/-! ## Reset and hazards: settling, changing inputs, power-up (R111, R114, R115) -/

namespace Sys2Proof.Machine

/-! ### The settling delay (R114) -/

section Combinational
variable {s : State} (h : s.cfg.outputReg = false)
include h

theorem showOutputs_of_settled (hsettled : s.settling = .settled) :
    showOutputs s = { s with out := outputsOf s.cfg s.inp } := by
  simp [showOutputs, h, hsettled]

theorem showOutputs_of_settling {u : Nat} (hsettling : s.settling = .settling u) : showOutputs s = drawOutputs s := by
  simp [showOutputs, h, hsettling]

theorem driveInputs_of_combinational (x : Inputs) :
    driveInputs x s = { s with inp := x, settling := .settling 0, out := freeOutputs s.cfg s.draws, draws := s.draws + 1 } :=
  showOutputs_of_settling (s := drivePorts x s) h rfl

/-- Once a wait of at least `T_PD` has followed a drive, the outputs are the function of what was driven. -/
theorem elapse_driveInputs_of_le {t : Nat} (x : Inputs) (ht : Config.tPd ≤ t) :
    elapse t (driveInputs x s) =
      { s with inp := x, settling := .settled, out := outputsOf s.cfg x, draws := s.draws + 1 } := by
  have hsettles : settleBy t (.settling 0) = .settled := by simp [settleBy, ht]
  rw [driveInputs_of_combinational h, elapse, hsettles]
  exact showOutputs_of_settled h rfl

/-- A shorter wait leaves any value again. -/
theorem elapse_driveInputs_of_lt {t : Nat} (x : Inputs) (ht : t < Config.tPd) :
    elapse t (driveInputs x s) =
      { s with inp := x, settling := .settling t, out := freeOutputs s.cfg (s.draws + 1), draws := s.draws + 2 } := by
  have hstays : settleBy t (.settling 0) = .settling t := by simp [settleBy, ht]
  rw [driveInputs_of_combinational h, elapse, hstays]
  exact showOutputs_of_settling h rfl

end Combinational

/-- Settles O50: a drive starts the count of stable time at 0, so one wait settles the inputs exactly when it reaches `T_PD`. -/
theorem outputsFollowAfterTheSettlingDelay : Obligations.OutputsFollowAfterTheSettlingDelay := by
  intro s x t hcomb
  have hdrive := driveInputs_of_combinational hcomb x
  refine ⟨by rw [hdrive], by rw [hdrive], ?_⟩
  rcases le_or_gt Config.tPd t with hlong | hshort
  · rw [elapse_driveInputs_of_le hcomb x hlong]
    exact ⟨rfl, fun _ => ⟨rfl, rfl⟩, fun hshort => absurd hlong hshort.not_ge⟩
  · rw [elapse_driveInputs_of_lt hcomb x hshort]
    exact ⟨rfl, fun hlong => absurd hlong hshort.not_ge, fun _ => rfl⟩

/-! ### An edge while the inputs change (R115, U11) -/

/-- Everything such an edge can do to the registers, by the `rst` it samples: reset them, load what the window gives, or leave any
value before the first reset edge. -/
theorem clockEdgeWhileChanging_of_registered {s : State} (h : s.cfg.outputReg = true) (x : Inputs) :
    ∃ rst, (s.inp.rst = x.rst → rst = x.rst) ∧
      ((rst = true ∧ clockEdgeWhileChanging x s =
          { s with inp := x, settling := .settling 0, out := resetOutputs, wasReset := true, draws := s.draws + 1 }) ∨
        (rst = false ∧ s.wasReset = true ∧ clockEdgeWhileChanging x s =
          { s with inp := x, settling := .settling 0, out := windowOutputs s.cfg s.draws, draws := s.draws + 1 }) ∨
        (rst = false ∧ s.wasReset = false ∧ clockEdgeWhileChanging x s =
          { s with inp := x, settling := .settling 0, out := freeOutputs s.cfg (s.draws + 1), draws := s.draws + 2 })) := by
  rcases clockEdgeWhileChanging_cases x s with ⟨hcomb, _⟩ | ⟨_, rst, hheld, e⟩
  · exact absurd (hcomb.symm.trans h) Bool.false_ne_true
  · refine ⟨rst, hheld, ?_⟩
    rcases registerEdge_cases rst (windowOutputs s.cfg s.draws) { s with draws := s.draws + 1 } with
      ⟨hrst, e'⟩ | ⟨hrst, hwas, e'⟩ | ⟨hrst, hwas, e'⟩
    · exact .inl ⟨hrst, by rw [e, e']⟩
    · exact .inr (.inl ⟨hrst, hwas, by rw [e, e']⟩)
    · exact .inr (.inr ⟨hrst, hwas, by rw [e, e']; rfl⟩)

/-- Settles O51: the `rst` that the edge samples, which is the held one where it is held, and an earlier reset say what is loaded. -/
theorem changingInputsLoadAnyValueUnlessInReset : Obligations.ChangingInputsLoadAnyValueUnlessInReset := by
  intro s x
  refine ⟨fun hcomb => if_neg (by simp [hcomb]), fun hreg => ?_⟩
  obtain ⟨rst, hheld, hedge⟩ := clockEdgeWhileChanging_of_registered hreg x
  have hsampled {b : Bool} (hs : s.inp.rst = b) (hx : x.rst = b) : rst = b := (hheld (hs.trans hx.symm)).trans hx
  have hany := windowOutputs_any s.cfg s.draws
  rcases hedge with ⟨rfl, e⟩ | ⟨rfl, hwas, e⟩ | ⟨rfl, hwas, e⟩ <;> rw [e]
  · exact ⟨rfl, Nat.lt_succ_self _, fun _ _ => ⟨rfl, rfl⟩, fun hs hx => absurd (hsampled hs hx) nofun, fun _ => .inl ⟨rfl, rfl⟩⟩
  · exact ⟨rfl, Nat.lt_succ_self _, fun hs hx => absurd (hsampled hs hx) nofun,
      fun _ _ => ⟨rfl, fun _ => hany, fun hunreset => absurd (hunreset.symm.trans hwas) nofun⟩, fun _ => .inr ⟨rfl, .inl hany⟩⟩
  · exact ⟨rfl, Nat.lt_add_of_pos_right Nat.two_pos, fun hs hx => absurd (hsampled hs hx) nofun,
      fun _ _ => ⟨rfl, fun hreset => absurd (hwas.symm.trans hreset) nofun, fun _ => rfl⟩, fun _ => .inr ⟨rfl, .inr rfl⟩⟩

/-! ### Power-up (R109, R111) -/

/-- Once reset, the first clean edge after a drive with `rst` at 0 loads the function of what was driven (R22). -/
theorem clockEdge_driveInputs_out {s : State} {x : Inputs} (hreg : s.cfg.outputReg = true) (hwas : s.wasReset = true)
    (hrst : x.rst = false) : (clockEdge (driveInputs x s)).out = outputsOf s.cfg x := by
  obtain ⟨_, hloads, _⟩ := clockEdgeLoadsTheRegisters (drivePorts x s) hreg
  rw [driveInputs_of_registered hreg]
  exact congrArg State.out (hloads hrst hwas)

/-- Settles O52: power-up forgets the reset, and the next edge at `rst` = 1 brings it back (`clockEdgeLoadsTheRegisters`). -/
theorem oneResetEdgeAfterPowerUp : Obligations.OneResetEdgeAfterPowerUp := by
  intro s x hreg
  obtain ⟨hresets, _, hdraws⟩ := clockEdgeLoadsTheRegisters (powerUp s) hreg
  refine ⟨rfl, fun hrst => ?_, fun hrst hxrst => ?_⟩
  · rw [hdraws hrst rfl]
    rfl
  · rw [hresets hrst]
    exact clockEdge_driveInputs_out hreg rfl hxrst

end Sys2Proof.Machine
